-- ==== Sys2Proof/Word.lean ====
section
/-! DEFINITION. The word types of the block: 00_scope R8 and R10 (bits numbered from 0, the least significant). -/

namespace Sys2Proof

/-- A 16-bit value: a grayscale word, the configuration value, a readback value (00_scope R8, `WW` = 16). -/
abbrev Word := BitVec 16

/-- The host opcode, 3 bits (30_encoding R49). -/
abbrev Opcode := BitVec 3

/-- The 16 grayscale words of an update (00_scope R8, `NCH` = 16; 20_memory R36). -/
abbrev Words := Vector Word 16

/-- `zext_16` of one bit (00_scope R11). -/
def Word.ofBit (b : Bool) : Word := (BitVec.ofBool b).setWidth 16

end Sys2Proof
end

