-- ==== Sys2Proof/Config.lean ====
section
/-! DEFINITION. What an implementation fixes and what the spec leaves open: the parameters of 00_scope R8 and R9,
the configuration masks of 10_state R28 and 30_encoding R58, and the free values (`draw`s) of
93_implementation_defined part 1. The free values are opaque: nothing can be proved of what they are
(log entry 3); the open parameters are opaque too (log entry 16). -/

namespace Sys2Proof.Config

/-- The identity string of the model (00_scope R2, 92_eei_decisions D37). -/
def identity : String := "MBI5030_demo-protocol-controller/v7"

/-- `NCH`, number of grayscale words per update and of output channels (00_scope R8). -/
def nch : Nat := 16

/-- `WW`, width of a grayscale word, of the target's shift register and of a readback value (00_scope R8). -/
def ww : Nat := 16

/-- `GW`, width of the current-gain field, at bits 2 to 7 of the configuration value (00_scope R8). -/
def gw : Nat := 6

/-- The greatest legal gain, the largest value of `GW` bits (30_encoding R59). -/
def maxGain : Nat := 63

/-- `F_SYS_HZ`, the controller's own clock frequency: open, no rule depends on it (00_scope R9). -/
opaque fSysHz : Nat

/-- One less than `PHASE_CYCLES`, which is open and at least 1 (00_scope R9). -/
opaque phaseCyclesLess1 : Nat

/-- `PHASE_CYCLES`, system-clock cycles a pin event is held (00_scope R9). -/
def phaseCycles : Nat := phaseCyclesLess1 + 1

/-- `SETTLE_NS`, the lower bound of the settle delay (40_primitives R75, 92_eei_decisions D13). -/
def settleNs : Nat := 64000

/-- `SETTLE_CYCLES`, the least integer not below `SETTLE_NS * F_SYS_HZ / 1e9` (00_scope R9). -/
def settleCycles : Nat := (settleNs * fSysHz + 999999999) / 1000000000

/-- The field of the current gain, bits 7:2 of the configuration value (10_state R28). -/
def gainField : Word := 0x00FC#16

/-- `CFG_PWM_12BIT` (30_encoding R58; which of the two masks it is, is INFERRED, 92_eei_decisions D16). -/
def cfgPwm12bit : Word := 0x2000#16

/-- `CFG_PWM_MODE_SCRAMBLE` (30_encoding R58; pairing INFERRED, 92_eei_decisions D16). -/
def cfgPwmModeScramble : Word := 0x1000#16

/-- A raw choice for an open mask, before the constraints of 10_state R28. -/
opaque rawPwm16bit : Word
/-- A raw choice for an open mask, before the constraints of 10_state R28. -/
opaque rawPwmModeNormal : Word
/-- A raw choice for an open mask, before the constraints of 10_state R28. -/
opaque rawSyncAuto : Word
/-- A raw choice for an open mask, before the constraints of 10_state R28. -/
opaque rawSyncManual : Word
/-- A raw choice for an open mask, before the constraints of 10_state R28. -/
opaque rawThermalProtOn : Word
/-- A raw choice for an open mask, before the constraints of 10_state R28. -/
opaque rawThermalProtOff : Word
/-- A raw choice for an open mask, before the constraints of 10_state R28. -/
opaque rawMissingClockOn : Word
/-- A raw choice for an open mask, before the constraints of 10_state R28. -/
opaque rawMissingClockOff : Word

/-- An open mask has no bit in 7:2 (10_state R28). -/
def offGain (raw : Word) : Word := raw &&& ~~~gainField

/-- The second value of a two-valued field: no bit in 7:2, and different from the first (10_state R28). -/
def otherThan (first raw : Word) : Word :=
  if offGain raw = first then first ^^^ 1#16 else offGain raw

/-- `CFG_PWM_16BIT`, open (00_scope R9, 10_state R28). -/
def cfgPwm16bit : Word := otherThan cfgPwm12bit rawPwm16bit
/-- `CFG_PWM_MODE_NORMAL`, open (00_scope R9, 10_state R28). -/
def cfgPwmModeNormal : Word := otherThan cfgPwmModeScramble rawPwmModeNormal
/-- `CFG_SYNC_AUTO`, open (00_scope R9, 10_state R28). -/
def cfgSyncAuto : Word := offGain rawSyncAuto
/-- `CFG_SYNC_MANUAL`, open (00_scope R9, 10_state R28). -/
def cfgSyncManual : Word := otherThan cfgSyncAuto rawSyncManual
/-- `CFG_THERMAL_PROT_ON`, open (00_scope R9, 10_state R28). -/
def cfgThermalProtOn : Word := offGain rawThermalProtOn
/-- `CFG_THERMAL_PROT_OFF`, open (00_scope R9, 10_state R28). -/
def cfgThermalProtOff : Word := otherThan cfgThermalProtOn rawThermalProtOff
/-- `CFG_MISSING_CLOCK_ON`, open (00_scope R9, 10_state R28). -/
def cfgMissingClockOn : Word := offGain rawMissingClockOn
/-- `CFG_MISSING_CLOCK_OFF`, open (00_scope R9, 10_state R28). -/
def cfgMissingClockOff : Word := otherThan cfgMissingClockOn rawMissingClockOff

/-- The places the thermal-error flag may have: one bit, not in 7:2 and not bit 13 or 12 (10_state R28). -/
inductive FlagPlace where
  | bit0 | bit1 | bit8 | bit9 | bit10 | bit11 | bit14 | bit15
  deriving DecidableEq, Repr, Inhabited

/-- The mask of a place. -/
def FlagPlace.mask : FlagPlace → Word
  | .bit0 => 0x0001#16
  | .bit1 => 0x0002#16
  | .bit8 => 0x0100#16
  | .bit9 => 0x0200#16
  | .bit10 => 0x0400#16
  | .bit11 => 0x0800#16
  | .bit14 => 0x4000#16
  | .bit15 => 0x8000#16

/-- Which place the thermal-error flag has: open (10_state R28, 46_target_device R125). -/
opaque thermalErrorPlace : FlagPlace

/-- `CFG_THERMAL_ERROR_FLAG`, the `TH` of 46_target_device R125. -/
def thermalErrorFlag : Word := thermalErrorPlace.mask

/-- Free value (`draw`) of one bit: a DATA_IN level outside the readback window, RSP_TAG after a reset step. -/
opaque freeBit : Nat → Bool
/-- Free value of an opcode register: OP after a reset step (10_state R34). -/
opaque freeOpcode : Nat → Opcode
/-- Free value of a 16-bit register. -/
opaque freeWord : Nat → Word
/-- Free value of 16 words: WORDS after a reset step, BUF after an unused signature. -/
opaque freeWords : Nat → Words
/-- Free value of a count 0..16: RBN after an unused signature (46_target_device R127). -/
opaque freeCount : Nat → Fin 17

end Sys2Proof.Config
end

