-- ==== Sys2Proof/Syntax.lean ====
section
/-! DEFINITION. The instructions: one constructor per row of spec/opcode_table.json, in the table's order. -/

namespace Sys2Proof

/-- The rows of the opcode table: host opcodes (format `H`), wire frames (`F16`, `SF`, `RB`), pin events and their
composites (`EV`), and the reactions of the target (`SIG`). -/
inductive Instr where
  /-- `INIT` (45_init_and_command_port R113). -/
  | init
  /-- `UPDATE words` (41_grayscale_update R82). -/
  | update (words : Words)
  /-- `RDERR` (42_error_report_read R96). -/
  | rderr
  /-- `RDCFG` (43_config_read R99). -/
  | rdcfg
  /-- `WRCFG mask, gain` (44_config_write R102). -/
  | wrcfg (mask : Word) (gain : BitVec 8)
  /-- Reserved opcode 101 (30_encoding R59). -/
  | reserved101
  /-- Reserved opcode 110 (30_encoding R59). -/
  | reserved110
  /-- Reserved opcode 111 (30_encoding R59). -/
  | reserved111
  /-- `SEND_DATA_WORD w` (41_grayscale_update R78). -/
  | sendDataWord (w : Word)
  /-- `SEND_GLOBAL_WORD w` (41_grayscale_update R79). -/
  | sendGlobalWord (w : Word)
  /-- `PREP_CFG` (43_config_read R98). -/
  | prepCfg
  /-- `SEND_CFG_WORD v` (44_config_write R101). -/
  | sendCfgWord (v : Word)
  /-- `EN_ERR_DET` (42_error_report_read R88). -/
  | enErrDet
  /-- `PREP_ERR` (42_error_report_read R90). -/
  | prepErr
  /-- `READ_REG` (42_error_report_read R95). -/
  | readReg
  /-- `SET_DATA b` (40_primitives R66). -/
  | setData (b : Bool)
  /-- `CLOCK_LOW` (40_primitives R68). -/
  | clockLow
  /-- `CLOCK_HIGH` (40_primitives R67). -/
  | clockHigh
  /-- `LATCH_LOW` (40_primitives R72). -/
  | latchLow
  /-- `LATCH_HIGH` (40_primitives R71). -/
  | latchHigh
  /-- `READ_DATA_IN` (40_primitives R74). -/
  | readDataIn
  /-- `SETTLE` (40_primitives R75). -/
  | settle
  /-- `PULSE_CLOCK` (40_primitives R69). -/
  | pulseClock
  /-- `SEND_BIT b` (40_primitives R70). -/
  | sendBit (b : Bool)
  /-- `HOLD_END` (40_primitives R73). -/
  | holdEnd
  /-- `T_CLOCK_RISE` (46_target_device R121). -/
  | tClockRise
  /-- `T_LATCH_RISE` (46_target_device R122). -/
  | tLatchRise
  /-- `T_DATA_LATCH`, signature 1 (46_target_device R123). -/
  | tDataLatch
  /-- `T_GLOBAL_LATCH`, signature 3 (46_target_device R123). -/
  | tGlobalLatch
  /-- `T_READ_CFG`, signature 5 (46_target_device R125). -/
  | tReadCfg
  /-- `T_EN_ERR`, signature 6 (46_target_device R124). -/
  | tEnErr
  /-- `T_READ_ERR`, signature 9 (46_target_device R124). -/
  | tReadErr
  /-- `T_WRITE_CFG`, signature 11 (46_target_device R125). -/
  | tWriteCfg
  /-- `T_UNUSED_SIGNATURE`, any other signature `n` (46_target_device R127). -/
  | tUnusedSignature (n : Nat)
  deriving DecidableEq, Repr

end Sys2Proof
end

