-- ==== Sys2Proof/WellFormed.lean ====
section
/-! DEFINITION. Which instructions are well-formed (45_init_and_command_port R108, 30_encoding R59 and R53). -/

namespace Sys2Proof

/-- The latch signatures the spec names (30_encoding R53). -/
def usedSignatures : List Nat := [1, 3, 5, 6, 9, 11]

/-- The checks: a host opcode is one of the five commands (30_encoding R59), the gain of `WRCFG` is at most 63
(45_init_and_command_port R108), and an unused signature is none of the six used ones (46_target_device R127). -/
def Instr.wellFormed : Instr → Bool
  | .init => true
  | .update _ => true
  | .rderr => true
  | .rdcfg => true
  | .wrcfg _ gain => decide (gain.toNat ≤ Config.maxGain)
  | .reserved101 => false
  | .reserved110 => false
  | .reserved111 => false
  | .sendDataWord _ => true
  | .sendGlobalWord _ => true
  | .prepCfg => true
  | .sendCfgWord _ => true
  | .enErrDet => true
  | .prepErr => true
  | .readReg => true
  | .setData _ => true
  | .clockLow => true
  | .clockHigh => true
  | .latchLow => true
  | .latchHigh => true
  | .readDataIn => true
  | .settle => true
  | .pulseClock => true
  | .sendBit _ => true
  | .holdEnd => true
  | .tClockRise => true
  | .tLatchRise => true
  | .tDataLatch => true
  | .tGlobalLatch => true
  | .tReadCfg => true
  | .tEnErr => true
  | .tReadErr => true
  | .tWriteCfg => true
  | .tUnusedSignature n => decide (n ∉ usedSignatures)

end Sys2Proof
end

