-- ==== Sys2Proof/Decode.lean ====
section
/-! DEFINITION. Decoding and encoding, from the tables of 30_encoding (R49 to R54) and opcode_table.json. The block has
no byte stream: each of the six formats has a place of its own (the command port, the wire, the sequencer, the
target), so a code carries its format (log entry 12). -/

namespace Sys2Proof

/-- The six formats of 30_encoding R48. -/
inductive Format where
  | h | f16 | sf | rb | ev | sig
  deriving DecidableEq, Repr

/-- An encoded instruction, in the format it has on the hardware. -/
inductive Code where
  /-- Format `H`: the levels of `cmd_op`, `cmd_words`, `cmd_mask`, `cmd_gain` (30_encoding R49). -/
  | host (op : Opcode) (words : BitVec 256) (mask : Word) (gain : BitVec 8)
  /-- Format `F16`: bit `15-i` of `latch` is the LATCH level, bit `15-i` of `payload` the data bit, at clock rising
  edge `i` (30_encoding R50). -/
  | frame (latch payload : Word)
  /-- Format `SF`: the LATCH level at each clock rising edge, first edge first (30_encoding R51). -/
  | short (latch : List Bool)
  /-- Format `RB`: the LATCH level at each clock rising edge between samples (30_encoding R52). -/
  | readback (latch : List Bool)
  /-- Format `EV`: 3-bit micro-operation codes in order (30_encoding R54). -/
  | micro (codes : List (BitVec 3))
  /-- Format `SIG`: a CLOCK rising edge (46_target_device R121). -/
  | clockEdge
  /-- Format `SIG`: a LATCH rising edge (46_target_device R122). -/
  | latchEdge
  /-- Format `SIG`: the latch signature decoded when LATCH falls (30_encoding R53). -/
  | signature (n : Nat)
  deriving DecidableEq, Repr

/-- The format of a code. -/
def Code.format : Code → Format
  | .host _ _ _ _ => .h
  | .frame _ _ => .f16
  | .short _ => .sf
  | .readback _ => .rb
  | .micro _ => .ev
  | .clockEdge => .sig
  | .latchEdge => .sig
  | .signature _ => .sig

/-- Why a code names no instruction. -/
inductive DecodeError where
  /-- An F16 latch pattern other than the four of 30_encoding R50. -/
  | unknownFrame (latch : Word)
  /-- A short frame of other than 6 or 9 latched edges (30_encoding R51). -/
  | unknownShortFrame (latch : List Bool)
  /-- A readback frame of other than 15 unlatched pulses (30_encoding R52). -/
  | unknownReadback (latch : List Bool)
  /-- A sequence of micro-operation codes that is neither one code nor a composite of 30_encoding R54. -/
  | unknownMicro (codes : List (BitVec 3))
  deriving DecidableEq, Repr

/-- `cmd_words[255:0]` as 16 words: word `k` at bits `16k+15:16k` (30_encoding R49, 20_memory R39). -/
def unpackWords (v : BitVec 256) : Words :=
  Vector.ofFn fun k => v.extractLsb' (16 * k.val) 16

/-- The 16 words as `cmd_words[255:0]` (30_encoding R49). -/
def packWords (ws : Words) : BitVec 256 :=
  ws.toList.foldr (fun w acc => (acc <<< 16) ||| w.setWidth 256) 0#256

/-- Format `H` (30_encoding R49). Operand ports that a command does not use are ignored. -/
def decodeHost (op : Opcode) (words : BitVec 256) (mask : Word) (gain : BitVec 8) : Instr :=
  match op with
  | 0b000#3 => .init
  | 0b001#3 => .update (unpackWords words)
  | 0b010#3 => .rderr
  | 0b011#3 => .rdcfg
  | 0b100#3 => .wrcfg mask gain
  | 0b101#3 => .reserved101
  | 0b110#3 => .reserved110
  | 0b111#3 => .reserved111

/-- Format `F16`: the four latch patterns (30_encoding R50). `PREP_CFG` has no payload. -/
def decodeFrame (latch payload : Word) : Except DecodeError Instr :=
  if latch = 0b0000000000000001#16 then .ok (.sendDataWord payload)
  else if latch = 0b0000000000000111#16 then .ok (.sendGlobalWord payload)
  else if latch = 0b0000000000011111#16 then .ok .prepCfg
  else if latch = 0b0000011111111111#16 then .ok (.sendCfgWord payload)
  else .error (.unknownFrame latch)

/-- Format `SF`: LATCH high at 6 or at 9 rising edges (30_encoding R51). -/
def decodeShort (latch : List Bool) : Except DecodeError Instr :=
  if latch = List.replicate 6 true then .ok .enErrDet
  else if latch = List.replicate 9 true then .ok .prepErr
  else .error (.unknownShortFrame latch)

/-- Format `RB`: 15 clock pulses with LATCH low (30_encoding R52). -/
def decodeReadback (latch : List Bool) : Except DecodeError Instr :=
  if latch = List.replicate 15 false then .ok .readReg else .error (.unknownReadback latch)

/-- One 3-bit micro-operation code (30_encoding R54). -/
def decodeEvent (code : BitVec 3) : Instr :=
  match code with
  | 0b000#3 => .setData false
  | 0b001#3 => .setData true
  | 0b010#3 => .clockLow
  | 0b011#3 => .clockHigh
  | 0b100#3 => .latchLow
  | 0b101#3 => .latchHigh
  | 0b110#3 => .readDataIn
  | 0b111#3 => .settle

/-- Format `EV`: one code, or one of the composites `011 010`, `00b 011 010`, `011 100 010` (30_encoding R54). -/
def decodeMicro (codes : List (BitVec 3)) : Except DecodeError Instr :=
  match codes with
  | [c] => .ok (decodeEvent c)
  | [0b011#3, 0b010#3] => .ok .pulseClock
  | [0b000#3, 0b011#3, 0b010#3] => .ok (.sendBit false)
  | [0b001#3, 0b011#3, 0b010#3] => .ok (.sendBit true)
  | [0b011#3, 0b100#3, 0b010#3] => .ok .holdEnd
  | _ => .error (.unknownMicro codes)

/-- Format `SIG`: what the target decodes when LATCH falls (30_encoding R53, 46_target_device R123). -/
def decodeSignature (n : Nat) : Instr :=
  match n with
  | 1 => .tDataLatch
  | 3 => .tGlobalLatch
  | 5 => .tReadCfg
  | 6 => .tEnErr
  | 9 => .tReadErr
  | 11 => .tWriteCfg
  | n => .tUnusedSignature n

/-- The decoder: total on codes, rejecting by name. -/
def decode (c : Code) : Except DecodeError Instr :=
  match c with
  | .host op words mask gain => .ok (decodeHost op words mask gain)
  | .frame latch payload => decodeFrame latch payload
  | .short latch => decodeShort latch
  | .readback latch => decodeReadback latch
  | .micro codes => decodeMicro codes
  | .clockEdge => .ok .tClockRise
  | .latchEdge => .ok .tLatchRise
  | .signature n => .ok (decodeSignature n)

/-- The encoder, from the same tables. Operand ports a command does not use are 0. -/
def encode (i : Instr) : Code :=
  match i with
  | .init => .host 0b000#3 0 0 0
  | .update ws => .host 0b001#3 (packWords ws) 0 0
  | .rderr => .host 0b010#3 0 0 0
  | .rdcfg => .host 0b011#3 0 0 0
  | .wrcfg mask gain => .host 0b100#3 0 mask gain
  | .reserved101 => .host 0b101#3 0 0 0
  | .reserved110 => .host 0b110#3 0 0 0
  | .reserved111 => .host 0b111#3 0 0 0
  | .sendDataWord w => .frame 0b0000000000000001#16 w
  | .sendGlobalWord w => .frame 0b0000000000000111#16 w
  | .prepCfg => .frame 0b0000000000011111#16 0
  | .sendCfgWord v => .frame 0b0000011111111111#16 v
  | .enErrDet => .short (List.replicate 6 true)
  | .prepErr => .short (List.replicate 9 true)
  | .readReg => .readback (List.replicate 15 false)
  | .setData b => .micro [if b then 0b001#3 else 0b000#3]
  | .clockLow => .micro [0b010#3]
  | .clockHigh => .micro [0b011#3]
  | .latchLow => .micro [0b100#3]
  | .latchHigh => .micro [0b101#3]
  | .readDataIn => .micro [0b110#3]
  | .settle => .micro [0b111#3]
  | .pulseClock => .micro [0b011#3, 0b010#3]
  | .sendBit b => .micro [if b then 0b001#3 else 0b000#3, 0b011#3, 0b010#3]
  | .holdEnd => .micro [0b011#3, 0b100#3, 0b010#3]
  | .tClockRise => .clockEdge
  | .tLatchRise => .latchEdge
  | .tDataLatch => .signature 1
  | .tGlobalLatch => .signature 3
  | .tReadCfg => .signature 5
  | .tEnErr => .signature 6
  | .tReadErr => .signature 9
  | .tWriteCfg => .signature 11
  | .tUnusedSignature n => .signature n

/-- The code of a table word of `nbits` bits (bits above them 0): up to 8 bits it is the opcode at the command port
with operand ports 0, up to 16 bits an F16 latch pattern with payload 0 (log entry 12). -/
def tableCode (nbits w : Nat) : Option Code :=
  if nbits ≤ 8 then
    if w < 8 then some (.host (BitVec.ofNat 3 w) 0 0 0) else none
  else if nbits ≤ 16 then
    if w < 65536 then some (.frame (BitVec.ofNat 16 w) 0) else none
  else none

/-- The instruction the decoder reads from a table word (log entry 12). -/
def decodeTableWord (nbits w : Nat) : Option Instr :=
  match tableCode nbits w with
  | some c => match decode c with
    | .ok i => some i
    | .error _ => none
  | none => none

end Sys2Proof
end

