-- ==== Sys2Proof/Machine/State.lean ====
section
/-! DEFINITION. The state of the controller (10_state), of the target (46_target_device R119), the levels at the input
ports (45_init_and_command_port R115), and the reasons a step can stop. -/

namespace Sys2Proof.Machine

/-- A pin event as it is performed and traced (00_scope R12). -/
inductive Event where
  /-- `D(b)`: DATA_OUT driven to `b`. -/
  | d (b : Bool)
  /-- `CH`: CLOCK driven high. -/
  | ch
  /-- `CL`: CLOCK driven low. -/
  | cl
  /-- `LH`: LATCH driven high. -/
  | lh
  /-- `LL`: LATCH driven low. -/
  | ll
  /-- `S(b)`: DATA_IN sampled, level `b`. -/
  | s (b : Bool)
  /-- `W`: the settle delay. -/
  | w
  deriving DecidableEq, Repr

/-- An entry of `TRACE`: a pin event, or `RST` (10_state R23). -/
inductive TraceEntry where
  | pin (e : Event)
  | rst
  deriving DecidableEq, Repr

/-- An entry of an event list `EV(c)`: a pin event that is still to be performed, so an `S` carries no bit yet
(45_init_and_command_port R108, 30_encoding R54). -/
inductive Micro where
  | setData (b : Bool)
  | clockLow
  | clockHigh
  | latchLow
  | latchHigh
  | readDataIn
  | settle
  deriving DecidableEq, Repr

/-- `TMR`, as far as it can be seen between steps (10_state R24, log entry 8). -/
inductive SettleTimer where
  | idle
  | counting
  deriving DecidableEq, Repr

/-- The levels at the input ports in one step (45_init_and_command_port R115). -/
structure PortIn where
  rst : Bool
  cmdValid : Bool
  cmdOp : Opcode
  cmdWords : BitVec 256
  cmdMask : Word
  cmdGain : BitVec 8
  /-- The level of `pin_data_in`: `none` where the target drives it (46_target_device R126), `some b` where the
  environment chooses it (10_state R29, log entry 2). -/
  dataIn : Option Bool
  deriving DecidableEq, Repr

/-- Ports at which nothing happens: no reset, no command, DATA_IN driven by the target. -/
def PortIn.quiet : PortIn :=
  { rst := false, cmdValid := false, cmdOp := 0, cmdWords := 0, cmdMask := 0, cmdGain := 0, dataIn := none }

/-- The target's registers (46_target_device R119). -/
structure Target where
  /-- `TSR`, the input shift register. -/
  tsr : Word
  /-- `LCNT`, CLOCK rising edges since LATCH rose. -/
  lcnt : Nat
  /-- `BUF[0..15]`, the per-word buffers. -/
  buf : Words
  /-- `OUT[0..15]`, the live output words. -/
  out : Words
  /-- `CFG`, the configuration register. -/
  cfg : Word
  /-- `ERRSTAT`, the error report. -/
  errstat : Word
  /-- `RB`, the value being shifted out on DATA_IN. -/
  rb : Word
  /-- `RBN`, how many bits of `RB` have still to be presented, 0 to 16. -/
  rbn : Fin 17
  deriving DecidableEq, Repr

/-- The state. -/
structure State where
  /-- `DOUT`, the level of DATA_OUT (10_state R14). -/
  dout : Bool
  /-- `CLK`, the level of CLOCK (10_state R14). -/
  clk : Bool
  /-- `LAT`, the level of LATCH (10_state R14). -/
  lat : Bool
  /-- `INITD` (10_state R16). -/
  initd : Bool
  /-- `BUSY` (10_state R17). -/
  busy : Bool
  /-- `OP` (10_state R18). -/
  op : Opcode
  /-- `WORDS[0..15]` (10_state R19). -/
  words : Words
  /-- `CFGDATA` (10_state R19). -/
  cfgdata : Word
  /-- `RXV` (10_state R21). -/
  rxv : Word
  /-- `UPC` (10_state R20). -/
  upc : BitVec 10
  /-- `RSP_VALID` (10_state R22). -/
  rspValid : Bool
  /-- `RSP_TAG`: false is 0, error report; true is 1, configuration (10_state R22). -/
  rspTag : Bool
  /-- `RSP_DATA` (10_state R22). -/
  rspData : Word
  /-- `TMR` (10_state R24). -/
  tmr : SettleTimer
  /-- `TRACE`, ghost, oldest entry first (10_state R23). -/
  trace : List TraceEntry
  /-- The target (46_target_device R119). -/
  target : Target
  /-- The model's own: how many free values have been used (log entry 3). -/
  draws : Nat
  /-- The model's own: the levels at the input ports, the head in this step, the rest in the following steps; past
  the end the ports are quiet (log entry 2). -/
  ports : List PortIn
  deriving DecidableEq, Repr

/-- The faults. The block has none (60_exceptions R130); this one is the model's. -/
inductive Fault where
  /-- Raised by `step` in a state with `BUSY = 1` in which `UPC` names no event of the command in `OP`. No run
  reaches such a state (10_state R20). Safe (log entry 14). -/
  | noEvent
  deriving DecidableEq, Repr

/-- The refusals (30_encoding R59: "refuse"). A refused command performs no event and changes no state. -/
inductive Refusal where
  /-- Raised by `exec` alone, for an instruction that has no meaning yet. Safe. -/
  | notModelled (mnemonic : String)
  /-- Raised by the reserved opcodes 101, 110, 111 (30_encoding R59). Safe. -/
  | reservedOpcode
  /-- Raised by `WRCFG` with a gain of 64 to 255 (30_encoding R59). Safe. -/
  | gainAbove63
  /-- Raised by `UPDATE`, `RDERR`, `RDCFG` and `WRCFG` while `INITD = 0` (45_init_and_command_port R114). Safe. -/
  | notInitialised
  deriving DecidableEq, Repr

/-- A response as a value (45_init_and_command_port R108, R111). -/
inductive Response where
  | errorReport (v : Word)
  | config (v : Word)
  deriving DecidableEq, Repr

/-- What a step does, by the priority of 60_exceptions R132: reset, else the sequencer's event, else a presented
command, else nothing. -/
inductive Fetched where
  /-- `rst` is asserted. -/
  | reset
  /-- The next event of the command in progress. -/
  | event (i : Instr)
  /-- `BUSY = 1` and `UPC` names no event. -/
  | stuck
  /-- A command at the port while `BUSY = 0`. -/
  | command (i : Instr)
  /-- `BUSY = 0` and no command. -/
  | idle
  deriving DecidableEq, Repr

/-- Sixteen words of zeros, the value the log names for unspecified arrays (log entries 4 and 5). -/
def zeroWords : Words := Vector.replicate 16 0

/-- The target at power-on: every element unspecified (46_target_device R120), 0 by log entry 5. -/
def Target.powerOn : Target :=
  { tsr := 0, lcnt := 0, buf := zeroWords, out := zeroWords, cfg := 0, errstat := 0, rb := 0, rbn := 0 }

/-- The machine right after reset (10_state R34). OP, WORDS, CFGDATA, RXV, RSP_TAG and RSP_DATA are unspecified there
and 0 by log entry 4; the target by log entry 5; TRACE holds the entry RST (log entry 7). -/
def State.reset : State :=
  { dout := false, clk := false, lat := false, initd := false, busy := false
    op := 0, words := zeroWords, cfgdata := 0, rxv := 0, upc := 0
    rspValid := false, rspTag := false, rspData := 0, tmr := .idle
    trace := [.rst], target := .powerOn, draws := 0, ports := [] }

end Sys2Proof.Machine
end

