-- ==== Sys2Proof/Machine/Operands.lean ====
section
/-! DEFINITION. Operand assembly (30_encoding section 3) and the one memory read (20_memory R37). -/

namespace Sys2Proof.Machine

/-- `MemRead(k, 16)`: the word of index `k` of the operand array (20_memory R37). -/
def memRead (ws : Words) (k : Fin 16) : Word := ws[k]

/-- `x << n` at 16 bits, zero filled and truncated (00_scope R11). -/
def shl (x : Word) (n : Nat) : Word := x <<< n

/-- `CFGDATA`: `cmd_mask | (zext_16(cmd_gain) << 2)` (30_encoding R56). -/
def cfgValue (mask : Word) (gain : BitVec 8) : Word := mask ||| shl (gain.setWidth 16) 2

/-- `((v << 1) | zext_16(b))[15:0]`: the next bit of a readback value (30_encoding R57), and of the target's shift
register (46_target_device R121). -/
def shiftIn (v : Word) (b : Bool) : Word := shl v 1 ||| Word.ofBit b

/-- The bits `v[hi]`, `v[hi-1]`, ..., `v[lo]` in that order (00_scope R11 `for i = hi downto lo`, 30_encoding R55). -/
def bitsDown (v : Word) (hi lo : Nat) : List Bool :=
  (List.range (hi + 1 - lo)).map fun i => v.getLsbD (hi - i)

end Sys2Proof.Machine
end

