-- ==== Sys2Proof/Machine/Events.lean ====
section
/-! DEFINITION. The event lists: composites (30_encoding R54), routines (41 to 44) and commands, `EV` of
45_init_and_command_port R108. -/

namespace Sys2Proof.Machine

/-- `PULSE_CLOCK`, `P`: `CH CL` (40_primitives R69). -/
def pulseEvents : List Micro := [.clockHigh, .clockLow]

/-- `SEND_BIT b`, `B(b)`: `D(b) CH CL` (40_primitives R70). -/
def sendBitEvents (b : Bool) : List Micro := .setData b :: pulseEvents

/-- `HOLD_END`: `CH LL CL` (40_primitives R73). -/
def holdEndEvents : List Micro := [.clockHigh, .latchLow, .clockLow]

/-- `[P]xn` (30_encoding R61). -/
def pulsesEvents (n : Nat) : List Micro := (List.replicate n pulseEvents).flatten

/-- `B(b)` for each bit in order. -/
def sendBitsEvents (bs : List Bool) : List Micro := bs.flatMap sendBitEvents

/-- `SEND_DATA_WORD w` (41_grayscale_update R78). -/
def dataWordEvents (w : Word) : List Micro :=
  sendBitsEvents (bitsDown w 15 1) ++ [.latchHigh] ++ sendBitEvents (w.getLsbD 0) ++ [.latchLow]

/-- `SEND_GLOBAL_WORD w` (41_grayscale_update R79). -/
def globalWordEvents (w : Word) : List Micro :=
  sendBitsEvents (bitsDown w 15 3) ++ [.latchHigh] ++ sendBitsEvents (bitsDown w 2 0) ++ [.latchLow]

/-- `EN_ERR_DET` (42_error_report_read R88). -/
def enErrDetEvents : List Micro := [.latchHigh] ++ pulsesEvents 5 ++ holdEndEvents

/-- `PREP_ERR` (42_error_report_read R90). -/
def prepErrEvents : List Micro := [.latchHigh] ++ pulsesEvents 8 ++ holdEndEvents

/-- `PREP_CFG` (43_config_read R98). -/
def prepCfgEvents : List Micro := pulsesEvents 11 ++ [.latchHigh] ++ pulsesEvents 4 ++ holdEndEvents

/-- `READ_REG`: `[S P]x15 S` (42_error_report_read R95). -/
def readRegEvents : List Micro :=
  (List.replicate 15 (Micro.readDataIn :: pulseEvents)).flatten ++ [.readDataIn]

/-- `SEND_CFG_WORD v` (44_config_write R101). -/
def cfgWordEvents (v : Word) : List Micro :=
  sendBitsEvents (bitsDown v 15 11) ++ [.latchHigh] ++ sendBitsEvents (bitsDown v 10 1)
    ++ [.setData (v.getLsbD 0)] ++ holdEndEvents

/-- `EV(INIT)`: `D0 CL LL` (45_init_and_command_port R113). -/
def initEvents : List Micro := [.setData false, .clockLow, .latchLow]

/-- The frame of the word of index `k`: a data word for 0 to 14, the global word for 15 (41_grayscale_update R82). -/
def wordEvents (ws : Words) (k : Fin 16) : List Micro :=
  if k.val < 15 then dataWordEvents (memRead ws k) else globalWordEvents (memRead ws k)

/-- `EV(UPDATE)` (41_grayscale_update R82). -/
def updateEvents (ws : Words) : List Micro := (List.finRange 16).flatMap (wordEvents ws)

/-- The part of `EV(RDERR)` before `READ_REG` (42_error_report_read R96). -/
def errPrefix : List Micro := enErrDetEvents ++ [.settle] ++ prepErrEvents

/-- `EV(RDERR)` (42_error_report_read R96). -/
def rderrEvents : List Micro := errPrefix ++ readRegEvents

/-- `EV(RDCFG)` (43_config_read R99). -/
def rdcfgEvents : List Micro := prepCfgEvents ++ readRegEvents

/-- `EV(c)` for the command whose opcode and loaded operands the registers hold (10_state R20). The reserved opcodes
have no events (30_encoding R59). -/
def eventList (op : Opcode) (words : Words) (cfgdata : Word) : List Micro :=
  match op with
  | 0b000#3 => initEvents
  | 0b001#3 => updateEvents words
  | 0b010#3 => rderrEvents
  | 0b011#3 => rdcfgEvents
  | 0b100#3 => cfgWordEvents cfgdata
  | _ => []

/-- The event list of the command in progress. -/
def State.events (s : State) : List Micro := eventList s.op s.words s.cfgdata

/-- The index at which `READ_REG` begins in the event list of the command with opcode `op`
(42_error_report_read R96: events 35..80; 43_config_read R99: events 34..79). -/
def readRegStart (op : Opcode) : Option Nat :=
  match op with
  | 0b010#3 => some errPrefix.length
  | 0b011#3 => some prepCfgEvents.length
  | _ => none

end Sys2Proof.Machine
end

