-- ==== Sys2Proof/Machine/Flags.lean ====
section
/-! DEFINITION. The block's only flags, INITD, BUSY, RSP_VALID and RSP_TAG (10_state R16, R17, R22): written at
acceptance and at completion of a command and nowhere else but reset (40_primitives R63); and the output ports. -/

namespace Sys2Proof.Machine

/-- The flags at acceptance: `RSP_VALID <- 0`, `BUSY <- 1` (45_init_and_command_port R117). -/
def State.flagsAtAcceptance (s : State) : State := { s with rspValid := false, busy := true }

/-- The response of a reading command: `RSP_DATA <- RXV`, `RSP_TAG <- tag`, `RSP_VALID <- 1` (10_state R22). -/
def State.respond (s : State) (tag : Bool) : State :=
  { s with rspData := s.rxv, rspTag := tag, rspValid := true }

/-- What completion writes besides `BUSY <- 0`, by the command in `OP` (45_init_and_command_port R110). -/
def State.resultAtCompletion (s : State) : State :=
  match s.op with
  | 0b000#3 => { s with initd := true }
  | 0b010#3 => s.respond false
  | 0b011#3 => s.respond true
  | _ => s

/-- The flags at completion (45_init_and_command_port R110). -/
def State.flagsAtCompletion (s : State) : State := { s.resultAtCompletion with busy := false }

/-- The response as a value, while `RSP_VALID = 1` (45_init_and_command_port R111). -/
def State.response (s : State) : Option Response :=
  if s.rspValid then some (if s.rspTag then .config s.rspData else .errorReport s.rspData) else none

/-- Port `cmd_ready`, which is `~BUSY` (45_init_and_command_port R115). -/
def State.cmdReady (s : State) : Bool := !s.busy

/-- Port `pin_data_out` (45_init_and_command_port R115). -/
def State.pinDataOut (s : State) : Bool := s.dout

/-- Port `pin_clock` (45_init_and_command_port R115). -/
def State.pinClock (s : State) : Bool := s.clk

/-- Port `pin_latch` (45_init_and_command_port R115). -/
def State.pinLatch (s : State) : Bool := s.lat

end Sys2Proof.Machine
end

