-- ==== Sys2Proof/Machine/Target.lean ====
section
/-! DEFINITION. The reactions of the target (46_target_device R121 to R127). A free value (`draw`) is an opaque constant of
Config applied to the counter `draws` (log entry 3). -/

namespace Sys2Proof.Machine

/-- `push(BUF, w)`: every entry moves down by one, `w` enters at 15 (46_target_device R123). -/
def pushWord (buf : Words) (w : Word) : Words :=
  Vector.ofFn fun j : Fin 16 => if h : j.val + 1 < 16 then buf[j.val + 1] else w

/-- The read-only thermal-error bit of `flag` and the other 15 bits of `v` (46_target_device R125). -/
def withFlagOf (v flag : Word) : Word :=
  (v &&& ~~~Config.thermalErrorFlag) ||| (flag &&& Config.thermalErrorFlag)

/-- A CLOCK rising edge with DATA_OUT and LATCH at these levels (46_target_device R121). -/
def Target.clockRise (t : Target) (dout lat : Bool) : Target :=
  { t with
    tsr := shiftIn t.tsr dout
    lcnt := if lat then t.lcnt + 1 else t.lcnt
    rb := if 0 < t.rbn.val then shl t.rb 1 else t.rb
    rbn := if 0 < t.rbn.val then t.rbn - 1 else t.rbn }

/-- The reaction of the target to a CLOCK rising edge (46_target_device R121). -/
def State.clockRise (s : State) : State := { s with target := s.target.clockRise s.dout s.lat }

/-- LATCH rising edge: `LCNT <- 0` (46_target_device R122). -/
def State.latchRise (s : State) : State := { s with target := { s.target with lcnt := 0 } }

/-- Signature 1: the word in the shift register is buffered (46_target_device R123). -/
def State.dataLatch (s : State) : State :=
  { s with target := { s.target with buf := pushWord s.target.buf s.target.tsr } }

/-- Signature 3: the word in the shift register is buffered and all 16 words are committed (46_target_device R123). -/
def State.globalLatch (s : State) : State :=
  let buf := pushWord s.target.buf s.target.tsr
  { s with target := { s.target with buf := buf, out := buf } }

/-- Signature 5: the configuration register is selected for reading, its thermal-error bit a free value
(46_target_device R125). -/
def State.selectCfg (s : State) : State :=
  { s with
    target := { s.target with rb := withFlagOf s.target.cfg (Config.freeWord s.draws), rbn := 16 }
    draws := s.draws + 1 }

/-- Signature 6: the error status becomes a free value (46_target_device R124). -/
def State.detectErrors (s : State) : State :=
  { s with target := { s.target with errstat := Config.freeWord s.draws }, draws := s.draws + 1 }

/-- Signature 9: the error report is selected for reading (46_target_device R124). -/
def State.selectErr (s : State) : State :=
  { s with target := { s.target with rb := s.target.errstat, rbn := 16 } }

/-- Signature 11: the configuration register is written but for its thermal-error bit (46_target_device R125). -/
def State.writeCfg (s : State) : State :=
  { s with target := { s.target with cfg := withFlagOf s.target.tsr s.target.cfg } }

/-- Any other signature: everything but OUT becomes a free value (46_target_device R127). LCNT is not named there and
keeps its value. -/
def State.unusedSignature (s : State) : State :=
  { s with
    target := { s.target with
      tsr := Config.freeWord s.draws
      buf := Config.freeWords s.draws
      cfg := Config.freeWord (s.draws + 1)
      errstat := Config.freeWord (s.draws + 2)
      rb := Config.freeWord (s.draws + 3)
      rbn := Config.freeCount s.draws }
    draws := s.draws + 4 }

/-- LATCH falling edge: the target acts on the signature counted (46_target_device R123). -/
def State.latchFall (s : State) : State :=
  match s.target.lcnt with
  | 1 => s.dataLatch
  | 3 => s.globalLatch
  | 5 => s.selectCfg
  | 6 => s.detectErrors
  | 9 => s.selectErr
  | 11 => s.writeCfg
  | _ => s.unusedSignature

/-- The current gain in the configuration register, bits 7:2 (10_state R28). -/
def Target.gain (t : Target) : BitVec 6 := t.cfg.extractLsb' 2 6

/-- Whether the configuration register selects 12-bit words (10_state R28; which mask says so is INFERRED,
92_eei_decisions D16). -/
def Target.twelveBit (t : Target) : Bool := decide (t.cfg &&& Config.cfgPwm12bit ≠ 0)

/-- The word output channel `j` takes from OUT: channel `j` is entry `j`, and in 12-bit mode the target ignores bits 3:0
(46_target_device R129; log entry 17). What brightness it produces is out of scope (00_scope R7). -/
def Target.channelWord (t : Target) (j : Fin 16) : Word :=
  if t.twelveBit then t.out[j] &&& 0xFFF0#16 else t.out[j]

end Sys2Proof.Machine
end

