-- ==== Sys2Proof/Machine/Ops.lean ====
section
/-! DEFINITION. The named operations: the input ports, the pins and the trace (40_primitives), acceptance and completion
(45_init_and_command_port), reset (70_reset_and_hazards R140: the block's only abnormal event, there being no
exception to take or return from, 60_exceptions R130 to R134), and what the next step fetches. -/

namespace Sys2Proof.Machine

/-- The levels at the input ports in this step. -/
def State.port (s : State) : PortIn := s.ports.headD .quiet

/-- A step has passed at the input ports (log entry 2). -/
def State.tick (s : State) : State := { s with ports := s.ports.tail }

/-- What every event does beside its effect on the pins: it is appended to TRACE and UPC advances by 1
(40_primitives R63). -/
def State.emit (s : State) (e : Event) : State :=
  { s with trace := s.trace ++ [.pin e], upc := s.upc + 1, ports := s.ports.tail }

/-- `D(b)` (40_primitives R66). -/
def State.driveData (s : State) (b : Bool) : State := { s with dout := b }.emit (.d b)

/-- `CH`: CLOCK is driven high, and the target reacts if that is an edge (40_primitives R67, R64). -/
def State.raiseClock (s : State) : State :=
  { (if s.clk then s else s.clockRise) with clk := true }.emit .ch

/-- `CL`: a CLOCK falling edge does nothing in the target (40_primitives R68, 46_target_device R121). -/
def State.lowerClock (s : State) : State := { s with clk := false }.emit .cl

/-- `LH`: LATCH is driven high, and the target reacts if that is an edge (40_primitives R71, R64). -/
def State.raiseLatch (s : State) : State :=
  { (if s.lat then s else s.latchRise) with lat := true }.emit .lh

/-- `LL`: LATCH is driven low, and the target acts on the signature if that is an edge (40_primitives R72, R64). -/
def State.lowerLatch (s : State) : State :=
  { (if s.lat then s.latchFall else s) with lat := false }.emit .ll

/-- Whether nothing drives DATA_IN with a described level, so that its level is a free value
(46_target_device R126, 10_state R29). -/
def State.lineFree (s : State) : Bool := s.port.dataIn.isNone && decide (s.target.rbn.val = 0)

/-- The level of DATA_IN at this step (46_target_device R126, 10_state R29). -/
def State.dataInLevel (s : State) : Bool :=
  match s.port.dataIn with
  | some b => b
  | none => if s.target.rbn.val = 0 then Config.freeBit s.draws else s.target.rb.getLsbD 15

/-- `S(b)`: DATA_IN is sampled (40_primitives R74) and the bit delivered to the sequencer, which shifts it into RXV
(10_state R21, 30_encoding R57; log entry 9). -/
def State.sampleDataIn (s : State) : State :=
  let b := s.dataInLevel
  { s with
    rxv := shiftIn s.rxv b
    draws := if s.lineFree then s.draws + 1 else s.draws }.emit (.s b)

/-- `W`: the settle timer counts SETTLE_CYCLES within the step and is idle after it (40_primitives R75, log entry 8). -/
def State.settleDelay (s : State) : State := { s with tmr := .idle }.emit .w

/-- One event of an event list is performed (40_primitives R63). -/
def State.perform (s : State) (m : Micro) : State :=
  match m with
  | .setData b => s.driveData b
  | .clockLow => s.lowerClock
  | .clockHigh => s.raiseClock
  | .latchLow => s.lowerLatch
  | .latchHigh => s.raiseLatch
  | .readDataIn => s.sampleDataIn
  | .settle => s.settleDelay

/-- Events performed one after another (20_memory R43). -/
def State.performAll (s : State) (l : List Micro) : State := l.foldl State.perform s

/-- The instruction of one event. -/
def Micro.instr (m : Micro) : Instr :=
  match m with
  | .setData b => .setData b
  | .clockLow => .clockLow
  | .clockHigh => .clockHigh
  | .latchLow => .latchLow
  | .latchHigh => .latchHigh
  | .readDataIn => .readDataIn
  | .settle => .settle

/-- RXV is cleared when `READ_REG` begins (10_state R21). -/
def State.clearRxv (s : State) : State := { s with rxv := 0 }

/-- What the sequencer does before the event at UPC: where that event is the first of `READ_REG`, RXV is cleared
(10_state R21, 42_error_report_read R95; log entry 9). -/
def State.beginRoutine (s : State) : State :=
  if readRegStart s.op = some s.upc.toNat then s.clearRxv else s

/-- The command in progress completes when UPC has reached the length of its event list (10_state R20,
45_init_and_command_port R110). -/
def State.completeIfDone (s : State) : State :=
  if s.upc.toNat = s.events.length then s.flagsAtCompletion else s

/-- What follows an event in its step: completion, where it was the last (45_init_and_command_port R110). -/
def finishStep (o : Host.Outcome State Fault Refusal) : Host.Outcome State Fault Refusal :=
  match o with
  | .next s => .next s.completeIfDone
  | .fault r => .fault r
  | .refused r => .refused r

/-- Acceptance, after the operands have been loaded: OP, UPC and the flags are written, and no pin event is performed
(45_init_and_command_port R117). -/
def State.accept (s : State) (op : Opcode) : State :=
  ({ s with op := op, upc := 0 }.flagsAtAcceptance).tick

/-- A command at the port of `s`; `loaded` is `s` with the command's operands in their registers. While BUSY it waits
and nothing of it happens (45_init_and_command_port R118); any command but `INIT` is refused while INITD = 0
(R114); else it is accepted (R117). -/
def State.present (s : State) (op : Opcode) (loaded : State) : Host.Outcome State Fault Refusal :=
  if s.busy then .next s
  else if op ≠ 0b000#3 ∧ s.initd = false then .refused .notInitialised
  else .next (loaded.accept op)

/-- The target at a reset: a forced fall of LATCH is decoded as any other (70_reset_and_hazards R140,
46_target_device R123). -/
def State.forceLatchLow (s : State) : State := if s.lat then s.latchFall else s

/-- Registers whose value after a reset is unspecified take free values (10_state R34, log entry 6). -/
def State.forgetRegisters (s : State) : State :=
  { s with
    op := Config.freeOpcode s.draws
    words := Config.freeWords s.draws
    cfgdata := Config.freeWord s.draws
    rxv := Config.freeWord (s.draws + 1)
    rspTag := Config.freeBit s.draws
    rspData := Config.freeWord (s.draws + 2)
    draws := s.draws + 3 }

/-- A step in which `rst` is asserted (70_reset_and_hazards R140, 10_state R34). -/
def State.takeReset (s : State) : State :=
  let t := s.forceLatchLow.forgetRegisters
  { t with
    dout := false, clk := false, lat := false
    initd := false, busy := false, upc := 0, rspValid := false, tmr := .idle
    trace := t.trace ++ [.rst], ports := t.ports.tail }

/-- The event the sequencer performs next: `EV(c)[UPC]` (10_state R20). -/
def State.nextEvent (s : State) : Option Micro := s.events[s.upc.toNat]?

/-- What the next step does (60_exceptions R132, 40_primitives R63, 45_init_and_command_port R117). -/
def State.fetch (s : State) : Fetched :=
  if s.port.rst then .reset
  else if s.busy then
    match s.nextEvent with
    | some m => .event m.instr
    | none => .stuck
  else if s.port.cmdValid then
    .command (decodeHost s.port.cmdOp s.port.cmdWords s.port.cmdMask s.port.cmdGain)
  else .idle

/-- `s` with a host command at the port of the next step and nothing after it: not BUSY, so that the port is looked at
(45_init_and_command_port R117), and INITD as after the boot step `INIT` for any other command (70_reset_and_hazards
R142; log entry 12). -/
def State.placeCommand (s : State) (op : Opcode) (words : BitVec 256) (mask : Word) (gain : BitVec 8) : State :=
  { s with
    busy := false
    initd := s.initd || decide (op ≠ 0b000#3)
    ports := [{ PortIn.quiet with
      cmdValid := true, cmdOp := op, cmdWords := words, cmdMask := mask, cmdGain := gain }] }

/-- `s` with the sequencer in the command of opcode `op` at event `upc` (log entry 12). -/
def State.placeSequencer (s : State) (op : Opcode) (upc : BitVec 10) : State :=
  { s with busy := true, initd := true, op := op, upc := upc, ports := [] }

/-- `s` with the sequencer at the first event of a routine, inside the command that performs it; other instructions
are placed by `placeCommand` or not at all (log entry 12). -/
def State.placeRoutine (s : State) (i : Instr) : State :=
  match i with
  | .sendDataWord w => { s with words := Vector.replicate 16 w }.placeSequencer 0b001#3 0
  | .sendGlobalWord w => { s with words := Vector.replicate 16 w }.placeSequencer 0b001#3 750
  | .prepCfg => s.placeSequencer 0b011#3 0
  | .sendCfgWord v => { s with cfgdata := v }.placeSequencer 0b100#3 0
  | _ => s

/-- `s` with a code placed where the next step takes its instruction from (log entry 12). -/
def State.placeCode (s : State) (c : Code) : State :=
  match c with
  | .host op words mask gain => s.placeCommand op words mask gain
  | c => match decode c with
    | .ok i => s.placeRoutine i
    | .error _ => s

end Sys2Proof.Machine
end

