-- ==== Sys2Proof/Machine/Commands.lean ====
section
/-! DEFINITION. Meanings of the host commands: what happens when the command is at the port, that is acceptance, waiting or
refusal (45_init_and_command_port R117, R118, R114). The events of an accepted command are performed by the steps that
follow (40_primitives R63; log entry 10). -/

namespace Sys2Proof.Machine

/-- `INIT` (45_init_and_command_port R113). -/
def execInit (s : State) : Host.Outcome State Fault Refusal := s.present 0b000#3 s

/-- `UPDATE words`: WORDS is loaded (41_grayscale_update R82, 45_init_and_command_port R117). -/
def execUpdate (words : Words) (s : State) : Host.Outcome State Fault Refusal :=
  s.present 0b001#3 { s with words := words }

/-- `RDERR` (42_error_report_read R96). -/
def execRderr (s : State) : Host.Outcome State Fault Refusal := s.present 0b010#3 s

/-- `RDCFG` (43_config_read R99). -/
def execRdcfg (s : State) : Host.Outcome State Fault Refusal := s.present 0b011#3 s

/-- `WRCFG mask, gain`: CFGDATA is loaded; a gain above 63 is refused (44_config_write R102, 30_encoding R59; log
entry 13). -/
def execWrcfg (mask : Word) (gain : BitVec 8) (s : State) : Host.Outcome State Fault Refusal :=
  if s.busy = false ∧ Config.maxGain < gain.toNat then .refused .gainAbove63
  else s.present 0b100#3 { s with cfgdata := cfgValue mask gain }

/-- Reserved opcode 101 (30_encoding R59). -/
def execReserved101 (_s : State) : Host.Outcome State Fault Refusal := .refused .reservedOpcode

/-- Reserved opcode 110 (30_encoding R59). -/
def execReserved110 (_s : State) : Host.Outcome State Fault Refusal := .refused .reservedOpcode

/-- Reserved opcode 111 (30_encoding R59). -/
def execReserved111 (_s : State) : Host.Outcome State Fault Refusal := .refused .reservedOpcode

end Sys2Proof.Machine
end

