-- ==== Sys2Proof/Machine/Frames.lean ====
section
/-! DEFINITION. Meanings of the routines, seen on the wire as frames (41_grayscale_update to 44_config_write): the whole event
list of the routine, one event after another (log entry 11). -/

namespace Sys2Proof.Machine

/-- `SEND_DATA_WORD w` (41_grayscale_update R78). -/
def execSendDataWord (w : Word) (s : State) : Host.Outcome State Fault Refusal :=
  .next (s.performAll (dataWordEvents w))

/-- `SEND_GLOBAL_WORD w` (41_grayscale_update R79). -/
def execSendGlobalWord (w : Word) (s : State) : Host.Outcome State Fault Refusal :=
  .next (s.performAll (globalWordEvents w))

/-- `PREP_CFG` (43_config_read R98). -/
def execPrepCfg (s : State) : Host.Outcome State Fault Refusal := .next (s.performAll prepCfgEvents)

/-- `SEND_CFG_WORD v` (44_config_write R101). -/
def execSendCfgWord (v : Word) (s : State) : Host.Outcome State Fault Refusal :=
  .next (s.performAll (cfgWordEvents v))

/-- `EN_ERR_DET` (42_error_report_read R88). -/
def execEnErrDet (s : State) : Host.Outcome State Fault Refusal := .next (s.performAll enErrDetEvents)

/-- `PREP_ERR` (42_error_report_read R90). -/
def execPrepErr (s : State) : Host.Outcome State Fault Refusal := .next (s.performAll prepErrEvents)

/-- `READ_REG`: RXV is cleared, then the events (42_error_report_read R95). -/
def execReadReg (s : State) : Host.Outcome State Fault Refusal := .next (s.clearRxv.performAll readRegEvents)

end Sys2Proof.Machine
end

