-- ==== Sys2Proof/Machine/Primitives.lean ====
section
/-! DEFINITION. Meanings of the pin events and their composites (40_primitives). None can fail (R63). -/

namespace Sys2Proof.Machine

/-- `SET_DATA b` (40_primitives R66). -/
def execSetData (b : Bool) (s : State) : Host.Outcome State Fault Refusal := .next (s.driveData b)

/-- `CLOCK_LOW` (40_primitives R68). -/
def execClockLow (s : State) : Host.Outcome State Fault Refusal := .next s.lowerClock

/-- `CLOCK_HIGH` (40_primitives R67). -/
def execClockHigh (s : State) : Host.Outcome State Fault Refusal := .next s.raiseClock

/-- `LATCH_LOW` (40_primitives R72). -/
def execLatchLow (s : State) : Host.Outcome State Fault Refusal := .next s.lowerLatch

/-- `LATCH_HIGH` (40_primitives R71). -/
def execLatchHigh (s : State) : Host.Outcome State Fault Refusal := .next s.raiseLatch

/-- `READ_DATA_IN` (40_primitives R74). -/
def execReadDataIn (s : State) : Host.Outcome State Fault Refusal := .next s.sampleDataIn

/-- `SETTLE` (40_primitives R75). -/
def execSettle (s : State) : Host.Outcome State Fault Refusal := .next s.settleDelay

/-- `PULSE_CLOCK`: two events (40_primitives R69). -/
def execPulseClock (s : State) : Host.Outcome State Fault Refusal := .next (s.performAll pulseEvents)

/-- `SEND_BIT b`: three events (40_primitives R70). -/
def execSendBit (b : Bool) (s : State) : Host.Outcome State Fault Refusal :=
  .next (s.performAll (sendBitEvents b))

/-- `HOLD_END`: three events (40_primitives R73). -/
def execHoldEnd (s : State) : Host.Outcome State Fault Refusal := .next (s.performAll holdEndEvents)

end Sys2Proof.Machine
end

