-- ==== Sys2Proof/Machine/Reactions.lean ====
section
/-! DEFINITION. Meanings of the target's reactions as instructions (46_target_device R121 to R127): the reaction alone,
without the pin event that causes it. -/

namespace Sys2Proof.Machine

/-- `T_CLOCK_RISE` (46_target_device R121). -/
def execTClockRise (s : State) : Host.Outcome State Fault Refusal := .next s.clockRise

/-- `T_LATCH_RISE` (46_target_device R122). -/
def execTLatchRise (s : State) : Host.Outcome State Fault Refusal := .next s.latchRise

/-- `T_DATA_LATCH` (46_target_device R123). -/
def execTDataLatch (s : State) : Host.Outcome State Fault Refusal := .next s.dataLatch

/-- `T_GLOBAL_LATCH` (46_target_device R123). -/
def execTGlobalLatch (s : State) : Host.Outcome State Fault Refusal := .next s.globalLatch

/-- `T_READ_CFG` (46_target_device R125). -/
def execTReadCfg (s : State) : Host.Outcome State Fault Refusal := .next s.selectCfg

/-- `T_EN_ERR` (46_target_device R124). -/
def execTEnErr (s : State) : Host.Outcome State Fault Refusal := .next s.detectErrors

/-- `T_READ_ERR` (46_target_device R124). -/
def execTReadErr (s : State) : Host.Outcome State Fault Refusal := .next s.selectErr

/-- `T_WRITE_CFG` (46_target_device R125). -/
def execTWriteCfg (s : State) : Host.Outcome State Fault Refusal := .next s.writeCfg

/-- `T_UNUSED_SIGNATURE`: the same for every unused signature (46_target_device R127). -/
def execTUnusedSignature (_n : Nat) (s : State) : Host.Outcome State Fault Refusal := .next s.unusedSignature

end Sys2Proof.Machine
end

