-- ==== Sys2Proof/Machine/Dispatch.lean ====
section
/-! DEFINITION. The meaning of each instruction, one arm per constructor, in the opcode table's order. -/

namespace Sys2Proof.Machine

def exec (i : Instr) (s : State) : Host.Outcome State Fault Refusal :=
  match i with
  | .init => Sys2Proof.Machine.execInit s
  | .update words => Sys2Proof.Machine.execUpdate words s
  | .rderr => Sys2Proof.Machine.execRderr s
  | .rdcfg => Sys2Proof.Machine.execRdcfg s
  | .wrcfg mask gain => Sys2Proof.Machine.execWrcfg mask gain s
  | .reserved101 => Sys2Proof.Machine.execReserved101 s
  | .reserved110 => Sys2Proof.Machine.execReserved110 s
  | .reserved111 => Sys2Proof.Machine.execReserved111 s
  | .sendDataWord w => Sys2Proof.Machine.execSendDataWord w s
  | .sendGlobalWord w => Sys2Proof.Machine.execSendGlobalWord w s
  | .prepCfg => Sys2Proof.Machine.execPrepCfg s
  | .sendCfgWord v => Sys2Proof.Machine.execSendCfgWord v s
  | .enErrDet => Sys2Proof.Machine.execEnErrDet s
  | .prepErr => Sys2Proof.Machine.execPrepErr s
  | .readReg => Sys2Proof.Machine.execReadReg s
  | .setData b => Sys2Proof.Machine.execSetData b s
  | .clockLow => Sys2Proof.Machine.execClockLow s
  | .clockHigh => Sys2Proof.Machine.execClockHigh s
  | .latchLow => Sys2Proof.Machine.execLatchLow s
  | .latchHigh => Sys2Proof.Machine.execLatchHigh s
  | .readDataIn => Sys2Proof.Machine.execReadDataIn s
  | .settle => Sys2Proof.Machine.execSettle s
  | .pulseClock => Sys2Proof.Machine.execPulseClock s
  | .sendBit b => Sys2Proof.Machine.execSendBit b s
  | .holdEnd => Sys2Proof.Machine.execHoldEnd s
  | .tClockRise => Sys2Proof.Machine.execTClockRise s
  | .tLatchRise => Sys2Proof.Machine.execTLatchRise s
  | .tDataLatch => Sys2Proof.Machine.execTDataLatch s
  | .tGlobalLatch => Sys2Proof.Machine.execTGlobalLatch s
  | .tReadCfg => Sys2Proof.Machine.execTReadCfg s
  | .tEnErr => Sys2Proof.Machine.execTEnErr s
  | .tReadErr => Sys2Proof.Machine.execTReadErr s
  | .tWriteCfg => Sys2Proof.Machine.execTWriteCfg s
  | .tUnusedSignature n => Sys2Proof.Machine.execTUnusedSignature n s

end Sys2Proof.Machine
end

