-- ==== Sys2Proof/Machine/Step.lean ====
section
/-! DEFINITION. One step of the machine: reset, an event of the sequencer, a command at the port, or nothing
(60_exceptions R132, 40_primitives R63, 45_init_and_command_port R117). -/

namespace Sys2Proof.Machine

/-- One step. An event is followed, in the same step, by the completion of its command where it was the last
(45_init_and_command_port R110). -/
def step (s : State) : Host.Outcome State Fault Refusal :=
  match s.fetch with
  | .reset => .next s.takeReset
  | .event i => finishStep (exec i s.beginRoutine)
  | .stuck => .fault .noEvent
  | .command i => exec i s
  | .idle => .next s.tick

/-- `s` with a table word placed where the next step takes its instruction from (log entry 12). -/
def State.withFetchWord (s : State) (nbits w : Nat) : State :=
  match tableCode nbits w with
  | some c => s.placeCode c
  | none => s

end Sys2Proof.Machine
end

