-- ==== Sys2Proof/Machine/Wave.lean ====
section
/-! DEFINITION. What is counted over lists of pin events: edges and redundant drives (40_primitives R64), latched intervals and
their signatures (30_encoding R47), and the counts of 40_primitives R76. -/

namespace Sys2Proof.Machine

/-- The three levels the controller drives. -/
structure Pins where
  dout : Bool
  clk : Bool
  lat : Bool
  deriving DecidableEq, Repr

/-- The pins of a state. -/
def State.pins (s : State) : Pins := ⟨s.dout, s.clk, s.lat⟩

/-- The pins after an event (00_scope R12). -/
def Pins.after (p : Pins) (e : Event) : Pins :=
  match e with
  | .d b => { p with dout := b }
  | .ch => { p with clk := true }
  | .cl => { p with clk := false }
  | .lh => { p with lat := true }
  | .ll => { p with lat := false }
  | .s _ => p
  | .w => p

/-- The pins after a list of events. -/
def Pins.afterAll (p : Pins) (l : List Event) : Pins := l.foldl Pins.after p

/-- The event drives a pin (a sample and the settle delay drive none). -/
def Event.drives (e : Event) : Bool :=
  match e with
  | .s _ => false
  | .w => false
  | _ => true

/-- A redundant drive: the event drives a pin to the level it already has (40_primitives R64). -/
def Event.redundant (p : Pins) (e : Event) : Bool := e.drives && decide (p.after e = p)

/-- The list without its redundant drives (40_primitives R64). -/
def essential (p : Pins) (l : List Event) : List Event :=
  match l with
  | [] => []
  | e :: r => if e.redundant p then essential p r else e :: essential (p.after e) r

/-- The waveform: the levels after each event that is no redundant drive (40_primitives R64). -/
def waveform (p : Pins) (l : List Event) : List Pins :=
  match l with
  | [] => []
  | e :: r => if e.redundant p then waveform p r else p.after e :: waveform (p.after e) r

/-- What has been counted so far in a list of events. -/
structure Scan where
  pins : Pins
  /-- CLOCK rising edges in the latched interval that is open, or in the last one. -/
  rising : Nat
  /-- CLOCK falling edges in the latched interval that is open, or in the last one. -/
  falling : Nat
  /-- Signature and falling count of each closed latched interval, oldest first. -/
  intervals : List (Nat × Nat)
  /-- DATA_OUT and LATCH at each CLOCK rising edge, oldest first. -/
  edges : List (Bool × Bool)
  deriving DecidableEq, Repr

/-- Nothing counted yet, from pins `p`. -/
def Scan.start (p : Pins) : Scan := { pins := p, rising := 0, falling := 0, intervals := [], edges := [] }

/-- One more event is counted (30_encoding R47, 40_primitives R64 and R76). -/
def Scan.feed (k : Scan) (e : Event) : Scan :=
  match e with
  | .ch =>
    if k.pins.clk then k
    else { k with
      pins := k.pins.after e
      rising := if k.pins.lat then k.rising + 1 else k.rising
      edges := k.edges ++ [(k.pins.dout, k.pins.lat)] }
  | .cl =>
    if k.pins.clk then
      { k with pins := k.pins.after e, falling := if k.pins.lat then k.falling + 1 else k.falling }
    else k
  | .lh => if k.pins.lat then k else { k with pins := k.pins.after e, rising := 0, falling := 0 }
  | .ll =>
    if k.pins.lat then
      { k with pins := k.pins.after e, intervals := k.intervals ++ [(k.rising, k.falling)] }
    else k
  | e => { k with pins := k.pins.after e }

/-- The count over a whole list. -/
def scan (p : Pins) (l : List Event) : Scan := l.foldl Scan.feed (.start p)

/-- The idle pins with DATA_OUT at `dout` (10_state R26). -/
def Pins.idle (dout : Bool) : Pins := ⟨dout, false, false⟩

/-- `rises(l)` (40_primitives R76), from the idle pins. -/
def rises (dout : Bool) (l : List Event) : Nat := (scan (.idle dout) l).edges.length

/-- `latched_rises(l)` (40_primitives R76), from the idle pins. -/
def latchedRises (dout : Bool) (l : List Event) : Nat := ((scan (.idle dout) l).edges.filter Prod.snd).length

/-- `sigs(l)` (40_primitives R76), from the idle pins. -/
def sigs (dout : Bool) (l : List Event) : List Nat := (scan (.idle dout) l).intervals.map Prod.fst

/-- The falling counts of the latched intervals (30_encoding R47), from the idle pins. -/
def fallingCounts (dout : Bool) (l : List Event) : List Nat := (scan (.idle dout) l).intervals.map Prod.snd

/-- The bits at the rising edges, first edge first (40_primitives R76). -/
def edgeBits (dout : Bool) (l : List Event) : List Bool := (scan (.idle dout) l).edges.map Prod.fst

/-- The LATCH level at the rising edges, first edge first (30_encoding R50). -/
def edgeLatch (dout : Bool) (l : List Event) : List Bool := (scan (.idle dout) l).edges.map Prod.snd

/-- `pulses(l)`: `CH` events followed, possibly after one `LL`, by `CL` (40_primitives R76). -/
def pulses (l : List Event) : Nat :=
  match l with
  | [] => 0
  | .ch :: .cl :: r => 1 + pulses r
  | .ch :: .ll :: .cl :: r => 1 + pulses r
  | _ :: r => pulses r

/-- `samples(l)`: the number of `S` events (40_primitives R76). -/
def samples (l : List Event) : Nat := (l.filter fun e => match e with | .s _ => true | _ => false).length

/-- The bits of the `S` events, oldest first. -/
def sampledBits (l : List Event) : List Bool :=
  l.filterMap fun e => match e with | .s b => some b | _ => none

/-- The number of `W` events. -/
def settles (l : List Event) : Nat := (l.filter fun e => decide (e = .w)).length

/-- The number of `D` events. -/
def dataEvents (l : List Event) : Nat := (l.filter fun e => match e with | .d _ => true | _ => false).length

/-- The event a list entry becomes when it is performed, `b` being the bit an `S` delivers (00_scope R12). -/
def Micro.event (b : Bool) (m : Micro) : Event :=
  match m with
  | .setData c => .d c
  | .clockLow => .cl
  | .clockHigh => .ch
  | .latchLow => .ll
  | .latchHigh => .lh
  | .readDataIn => .s b
  | .settle => .w

/-- The micro-operation code of an event (30_encoding R54). -/
def Micro.code (m : Micro) : BitVec 3 :=
  match m with
  | .setData b => if b then 0b001#3 else 0b000#3
  | .clockLow => 0b010#3
  | .clockHigh => 0b011#3
  | .latchLow => 0b100#3
  | .latchHigh => 0b101#3
  | .readDataIn => 0b110#3
  | .settle => 0b111#3

/-- The value whose bits are the given ones, most significant first: `s0 ++ s1 ++ ...` (30_encoding R57). -/
def assemble (bs : List Bool) : Word := bs.foldl shiftIn 0

end Sys2Proof.Machine
end

