-- ==== Sys2Proof/Safety.lean ====
section
/-! DEFINITION. What the statements call idle, sound and quiet: the idle invariant (10_state R26), the invariant of every run,
and the host's restraint. -/

namespace Sys2Proof.Machine

/-- Idle: CLOCK and LATCH low with no command in progress (10_state R26, 00_scope glossary). -/
def State.Idle (s : State) : Prop := s.busy = false ∧ s.clk = false ∧ s.lat = false

/-- What the events performed so far of the command in progress have done to the pins and counted (10_state R20). -/
def State.progress (s : State) : Scan :=
  scan (.idle false) ((s.events.take s.upc.toNat).map (Micro.event false))

/-- The invariant of every run. While no command is in progress CLOCK and LATCH are low (10_state R26); while one is,
UPC names an event of it (10_state R20), CLOCK and LATCH are where its events so far put them, the target's count is
the number of rising edges of the latched interval that is open (30_encoding R47), no response is offered
(45_init_and_command_port R117), and INIT has run unless it is INIT (R114). The settle timer is idle between steps
(10_state R24). -/
structure State.Inv (s : State) : Prop where
  idle : s.busy = false → s.clk = false ∧ s.lat = false
  inList : s.busy = true → s.upc.toNat < s.events.length
  pins : s.busy = true → s.clk = s.progress.pins.clk ∧ s.lat = s.progress.pins.lat
  count : s.busy = true → s.lat = true → s.target.lcnt = s.progress.rising
  noResponse : s.busy = true → s.rspValid = false
  initd : s.busy = true → s.op ≠ 0b000#3 → s.initd = true
  timer : s.tmr = .idle

/-- `rst` is not asserted in any of the next `n` steps. -/
def State.NoReset (s : State) (n : Nat) : Prop := ∀ p ∈ s.ports.take n, p.rst = false

/-- `n` steps of the machine. -/
def run (n : Nat) (s : State) : Host.Outcome State Fault Refusal :=
  match n with
  | 0 => .next s
  | n + 1 => match step s with
    | .next t => run n t
    | .fault r => .fault r
    | .refused r => .refused r

/-- The controller's registers that no pin event writes (40_primitives R63): the flags, OP, the operands and the
response. -/
def State.SameRegisters (s t : State) : Prop :=
  t.initd = s.initd ∧ t.busy = s.busy ∧ t.op = s.op ∧ t.words = s.words ∧ t.cfgdata = s.cfgdata
    ∧ t.rspValid = s.rspValid ∧ t.rspTag = s.rspTag ∧ t.rspData = s.rspData

end Sys2Proof.Machine
end

