-- ==== Sys2Proof/Certificates/Slice0/Obligations.lean ====
section
/-! DEFINITION. The statements for the provers. Each docstring names the rule of spec/ it formalises. A free value (`draw`) stands
in a statement as the opaque constant the model uses: the statement holds whatever that constant is (log entry 3). -/

namespace Sys2Proof.Claims

open Sys2Proof.Machine

/-- `v` is `old` moved up by one place with `b` at bit 0, truncated to 16 bits (30_encoding R57). -/
def ShiftedIn (old v : Word) (b : Bool) : Prop :=
  v.getLsbD 0 = b ∧ ∀ i < 15, v.getLsbD (i + 1) = old.getLsbD i

/-- The target after a CLOCK rising edge with DATA_OUT and LATCH at these levels (46_target_device R121), field by field. -/
def AfterClockRise (t u : Target) (dout lat : Bool) : Prop :=
  ShiftedIn t.tsr u.tsr dout
    ∧ u.lcnt = (if lat then t.lcnt + 1 else t.lcnt)
    ∧ (t.rbn.val = 0 → u.rb = t.rb ∧ u.rbn = t.rbn)
    ∧ (0 < t.rbn.val → ShiftedIn t.rb u.rb false ∧ u.rbn.val + 1 = t.rbn.val)
    ∧ u.buf = t.buf ∧ u.out = t.out ∧ u.cfg = t.cfg ∧ u.errstat = t.errstat

/-- `v` is `buf` with every entry moved down by one and `w` at 15 (46_target_device R123). -/
def Pushed (buf v : Words) (w : Word) : Prop :=
  (∀ j, ∀ h : j + 1 < 16, v[j] = buf[j + 1]) ∧ v[15] = w

/-- `v` is `base` but for the thermal-error bit, which is `flag`'s (46_target_device R125), bit by bit. -/
def FlagFrom (base flag v : Word) : Prop :=
  ∀ i < 16, v.getLsbD i = if Config.thermalErrorFlag.getLsbD i then flag.getLsbD i else base.getLsbD i

/-- `v` is `old` moved up by `n` places with `n` copies of `b` entering. -/
def Filled (old v : Word) (n : Nat) (b : Bool) : Prop :=
  ∀ i < 16, v.getLsbD i = if i < n then b else old.getLsbD (i - n)

/-- The readback after `n` CLOCK rising edges: it moves up once for each bit that was still to be presented. -/
def ReadbackAfter (t u : Target) (n : Nat) : Prop :=
  u.rbn.val = t.rbn.val - n ∧ u.rb = t.rb <<< min t.rbn.val n

/-- `part` 0, 1, 2 of a bit: `D(b)`, `CH`, `CL` (41_grayscale_update R78). -/
def bitPart (b : Bool) (part : Nat) : Event :=
  if part = 0 then .d b else if part = 1 then .ch else .cl

/-- Event `r` of `SEND_DATA_WORD w` (41_grayscale_update R78). -/
def dataWordAt (w : Word) (r : Nat) : Event :=
  if r < 45 then bitPart (w.getLsbD (15 - r / 3)) (r % 3)
  else if r = 45 then .lh
  else if r < 49 then bitPart (w.getLsbD 0) (r - 46)
  else .ll

/-- Event `r` of `SEND_GLOBAL_WORD w` (41_grayscale_update R79). -/
def globalWordAt (w : Word) (r : Nat) : Event :=
  if r < 39 then bitPart (w.getLsbD (15 - r / 3)) (r % 3)
  else if r = 39 then .lh
  else if r < 49 then bitPart (w.getLsbD (2 - (r - 40) / 3)) ((r - 40) % 3)
  else .ll

/-- Event `r` of `SEND_CFG_WORD v` (44_config_write R101). -/
def cfgWordAt (v : Word) (r : Nat) : Event :=
  if r < 15 then bitPart (v.getLsbD (15 - r / 3)) (r % 3)
  else if r = 15 then .lh
  else if r < 46 then bitPart (v.getLsbD (10 - (r - 16) / 3)) ((r - 16) % 3)
  else if r = 46 then .d (v.getLsbD 0)
  else if r = 47 then .ch
  else if r = 48 then .ll
  else .cl

/-- Event `e` of `EV(UPDATE)`: event `e mod 50` of the frame of word `e div 50` (41_grayscale_update R82), the words
taken from `cmd_words`. -/
def updateAt (words : BitVec 256) (e : Nat) : Event :=
  if e / 50 < 15 then dataWordAt (words.extractLsb' (16 * (e / 50)) 16) (e % 50)
  else globalWordAt (words.extractLsb' 240 16) (e % 50)

/-- `EN_ERR_DET` as its rule writes it out (42_error_report_read R88). -/
def enErrDetList : List Event := [.lh, .ch, .cl, .ch, .cl, .ch, .cl, .ch, .cl, .ch, .cl, .ch, .ll, .cl]

/-- `PREP_ERR`: `LH [P]x8 CH LL CL` (42_error_report_read R90). -/
def prepErrList : List Event := [.lh] ++ (List.replicate 8 [Event.ch, .cl]).flatten ++ [.ch, .ll, .cl]

/-- `PREP_CFG`: `[P]x11 LH [P]x4 CH LL CL` (43_config_read R98). -/
def prepCfgList : List Event :=
  (List.replicate 11 [Event.ch, .cl]).flatten ++ [.lh] ++ (List.replicate 4 [Event.ch, .cl]).flatten
    ++ [.ch, .ll, .cl]

/-- `[S P]x15 S` with the samples `b 0 .. b 15` (42_error_report_read R95). -/
def readRegList (b : Fin 16 → Bool) : List Event :=
  ((List.finRange 16).flatMap fun j => if j.val < 15 then [.s (b j), .ch, .cl] else [.s (b j)])

/-- `v` is `s0 ++ s1 ++ ... ++ s15`: `v[15-j] = sj` (30_encoding R57). -/
def AssembledFrom (b : Fin 16 → Bool) (v : Word) : Prop := ∀ j : Fin 16, v.getLsbD (15 - j.val) = b j

/-- A list of events at the end of a trace. -/
def traced (l : List Event) : List TraceEntry := l.map .pin

/-- What every routine has in common: pins with CLOCK and LATCH low, the events traced, `n` steps counted by UPC and
passed at the ports, and every register no event writes unchanged (40_primitives R63). -/
def RoutineDone (s t : State) (dout : Bool) (l : List Event) : Prop :=
  t.pins = ⟨dout, false, false⟩ ∧ t.trace = s.trace ++ traced l ∧ t.upc = s.upc + BitVec.ofNat 10 l.length
    ∧ t.ports = s.ports.drop l.length ∧ s.SameRegisters t ∧ t.tmr = s.tmr

/-- The routines and their event lists (30_encoding R62). -/
def routineEvents (i : Instr) : Option (List Micro) :=
  match i with
  | .sendDataWord w => some (dataWordEvents w)
  | .sendGlobalWord w => some (globalWordEvents w)
  | .prepCfg => some prepCfgEvents
  | .sendCfgWord v => some (cfgWordEvents v)
  | .enErrDet => some enErrDetEvents
  | .prepErr => some prepErrEvents
  | .readReg => some readRegEvents
  | _ => none

/-- The five commands (45_init_and_command_port R107). -/
def isCommand (i : Instr) : Bool :=
  match i with
  | .init => true
  | .update _ => true
  | .rderr => true
  | .rdcfg => true
  | .wrcfg _ _ => true
  | _ => false

/-- The command with opcode `op` is at the port in this step (45_init_and_command_port R116). -/
def Presents (s : State) (op : Opcode) : Prop := s.port.cmdValid = true ∧ s.port.cmdOp = op

/-- In the next `n` steps the target drives DATA_IN (46_target_device R126). -/
def TargetDrives (s : State) (n : Nat) : Prop := ∀ p ∈ s.ports.take n, p.dataIn = none

/-- The events of a list, with `b` at every sample. -/
def asEvents (b : Bool) (l : List Micro) : List Event := l.map (Micro.event b)

end Sys2Proof.Claims

open Sys2Proof Sys2Proof.Machine Sys2Proof.Claims

/-! ## Encodings -/

/-- The decoder undoes the encoder on every well-formed instruction, on `WRCFG` with any gain, and on the reserved
opcodes (30_encoding R49 to R54). -/
def Obligations.DecodeEncodeRoundTrip : Prop :=
  (∀ i : Instr, i.wellFormed = true → decode (encode i) = .ok i)
    ∧ (∀ mask gain, decode (encode (.wrcfg mask gain)) = .ok (.wrcfg mask gain))
    ∧ (∀ i ∈ [Instr.reserved101, .reserved110, .reserved111], decode (encode i) = .ok i)

/-- A word of each of the six formats, written out from the tables of 30_encoding (R49 to R54), decodes to the instruction it
stands for. -/
def Obligations.SpecWordsDecode : Prop :=
  decode (.host 0b000#3 0 0 0) = .ok .init
    ∧ decode (.host 0b001#3 0xBEEF40028001FFFE7FFFFF0000FFF0F00F0F5555AAAA0000FFFF123480000001 0 0)
        = .ok (.update #v[0x0001, 0x8000, 0x1234, 0xFFFF, 0x0000, 0xAAAA, 0x5555, 0x0F0F, 0xF0F0, 0x00FF, 0xFF00, 0x7FFF,
          0xFFFE, 0x8001, 0x4002, 0xBEEF])
    ∧ decode (.host 0b100#3 0 0x3000 0x1F) = .ok (.wrcfg 0x3000 31)
    ∧ decode (.frame 0b0000011111111111#16 0x307C) = .ok (.sendCfgWord 0x307C)
    ∧ decode (.short [true, true, true, true, true, true]) = .ok .enErrDet
    ∧ decode (.readback [false, false, false, false, false, false, false, false, false, false, false, false, false, false,
        false]) = .ok .readReg
    ∧ decode (.micro [0b011#3, 0b100#3, 0b010#3]) = .ok .holdEnd
    ∧ decode (.micro [0b110#3]) = .ok .readDataIn
    ∧ decode (.signature 9) = .ok .tReadErr

/-- The command port (30_encoding R49): the opcode decides, word `k` is bits `16k+15:16k` of `cmd_words`, and operand
ports a command does not use are ignored. -/
def Obligations.HostPortDecodes : Prop :=
  ∀ (words : BitVec 256) (mask : Word) (gain : BitVec 8),
    decode (.host 0b000#3 words mask gain) = .ok .init
      ∧ (∃ ws : Words, decode (.host 0b001#3 words mask gain) = .ok (.update ws)
          ∧ ∀ k, ∀ h : k < 16, ∀ i < 16, ws[k].getLsbD i = words.getLsbD (16 * k + i))
      ∧ decode (.host 0b010#3 words mask gain) = .ok .rderr
      ∧ decode (.host 0b011#3 words mask gain) = .ok .rdcfg
      ∧ decode (.host 0b100#3 words mask gain) = .ok (.wrcfg mask gain)
      ∧ decode (.host 0b101#3 words mask gain) = .ok .reserved101
      ∧ decode (.host 0b110#3 words mask gain) = .ok .reserved110
      ∧ decode (.host 0b111#3 words mask gain) = .ok .reserved111

/-- The wire formats accept exactly the patterns of 30_encoding R50, R51 and R52. -/
def Obligations.WireFormatsDecodeExactly : Prop :=
  (∀ latch payload : Word, (∃ i, decode (.frame latch payload) = .ok i)
      ↔ latch = 0x0001 ∨ latch = 0x0007 ∨ latch = 0x001F ∨ latch = 0x07FF)
    ∧ (∀ l : List Bool, (∃ i, decode (.short l) = .ok i)
      ↔ (∀ b ∈ l, b = true) ∧ (l.length = 6 ∨ l.length = 9))
    ∧ (∀ l : List Bool, (∃ i, decode (.readback l) = .ok i) ↔ (∀ b ∈ l, b = false) ∧ l.length = 15)

/-- The latch pattern and the payload of a frame's code are the LATCH levels and the data bits at its CLOCK rising edges
(30_encoding R50, R51): the encoding of a frame is read off its own event list. `PREP_CFG` and the short frames carry the
level DATA_OUT had. -/
def Obligations.FramePatternsOnTheWire : Prop :=
  ∀ (w : Word) (dout b : Bool),
    (∀ i ∈ [Instr.sendDataWord w, .sendGlobalWord w, .sendCfgWord w], ∀ latch payload l,
        encode i = .frame latch payload → routineEvents i = some l →
          edgeLatch dout (asEvents b l) = bitsDown latch 15 0
            ∧ edgeBits dout (asEvents b l) = bitsDown payload 15 0)
      ∧ (∀ latch payload, encode .prepCfg = .frame latch payload →
          edgeLatch dout (asEvents b prepCfgEvents) = bitsDown latch 15 0
            ∧ edgeBits dout (asEvents b prepCfgEvents) = List.replicate 16 dout)
      ∧ (∀ i ∈ [Instr.enErrDet, .prepErr], ∀ latch l, encode i = .short latch → routineEvents i = some l →
          edgeLatch dout (asEvents b l) = latch ∧ edgeBits dout (asEvents b l) = List.replicate latch.length dout)
      ∧ (∀ latch, encode .readReg = .readback latch → edgeLatch dout (asEvents b readRegEvents) = latch)

/-- The signature table of 30_encoding R53: for each routine its signature, its falling count, and its CLOCK rising edges
in all. -/
def Obligations.SignatureTable : Prop :=
  ∀ (w : Word) (dout b : Bool) (row : Instr × Nat × Nat × Nat) (l : List Micro),
    row ∈ [(Instr.sendDataWord w, 1, 1, 16), (.sendGlobalWord w, 3, 3, 16), (.prepCfg, 5, 4, 16), (.enErrDet, 6, 5, 6),
      (.prepErr, 9, 8, 9), (.sendCfgWord w, 11, 10, 16)] →
    routineEvents row.1 = some l →
      sigs dout (asEvents b l) = [row.2.1] ∧ fallingCounts dout (asEvents b l) = [row.2.2.1]
        ∧ rises dout (asEvents b l) = row.2.2.2

/-- The micro-operation codes of 30_encoding R54 decode to the events they stand for. -/
def Obligations.MicroCodesDecode : Prop := ∀ m : Micro, decode (.micro [m.code]) = .ok m.instr

/-! ## Event lists -/

/-- `EV(UPDATE)` event by event: event `e` is event `e mod 50` of the frame of word `e div 50`
(41_grayscale_update R78, R79, R82). -/
def Obligations.UpdateEventIndex : Prop :=
  ∀ (words : BitVec 256) (b : Bool) (e : Nat), e < 800 →
    (asEvents b (updateEvents (unpackWords words)))[e]? = some (updateAt words e)

/-- The counts of `UPDATE`, for every operand (41_grayscale_update R83): 800 events, 256 pulses, fifteen signatures 1 and one
3, 18 latched edges, no sample, no settle; LATCH is high at edge 15 of each of words 0 to 14 and at edges 13, 14, 15 of
word 15, and low at every other edge. -/
def Obligations.UpdateCounts : Prop :=
  ∀ (ws : Words) (dout b : Bool),
    (updateEvents ws).length = 800
      ∧ rises dout (asEvents b (updateEvents ws)) = 256
      ∧ pulses (asEvents b (updateEvents ws)) = 256
      ∧ sigs dout (asEvents b (updateEvents ws)) = List.replicate 15 1 ++ [3]
      ∧ latchedRises dout (asEvents b (updateEvents ws)) = 18
      ∧ samples (asEvents b (updateEvents ws)) = 0
      ∧ settles (asEvents b (updateEvents ws)) = 0
      ∧ dataEvents (asEvents b (updateEvents ws)) = 256
      ∧ (∀ k < 16, ∀ i < 16, (edgeLatch dout (asEvents b (updateEvents ws)))[16 * k + i]?
          = some (decide (if k < 15 then i = 15 else 13 ≤ i)))

/-- Bit order of `UPDATE` (41_grayscale_update R84, 30_encoding R55): at rising edge `16k + i` the bit is
`WORDS[k][15-i]`. -/
def Obligations.UpdateBitOrder : Prop :=
  ∀ (ws : Words) (dout b : Bool) (k i : Nat) (hk : k < 16), i < 16 →
    (edgeBits dout (asEvents b (updateEvents ws)))[16 * k + i]? = some (ws[k].getLsbD (15 - i))

/-- The grouping of `WRCFG` is exact, for every operand (44_config_write R103): 16 rising edges, signature 11, LATCH low at
edges 0 to 4 and high at edges 5 to 15, no sample, no settle. -/
def Obligations.WrcfgGroupingExact : Prop :=
  ∀ (v : Word) (dout b : Bool),
    (cfgWordEvents v).length = 50
      ∧ rises dout (asEvents b (cfgWordEvents v)) = 16
      ∧ sigs dout (asEvents b (cfgWordEvents v)) = [11]
      ∧ (∀ i < 16, (edgeLatch dout (asEvents b (cfgWordEvents v)))[i]? = some (decide (5 ≤ i)))
      ∧ samples (asEvents b (cfgWordEvents v)) = 0
      ∧ settles (asEvents b (cfgWordEvents v)) = 0

/-- The lists without operands (30_encoding R60; 42_error_report_read R97; 43_config_read R100; 45_init_and_command_port
R113): lengths and counts of `INIT`, `RDERR` and `RDCFG`. -/
def Obligations.FixedListCounts : Prop :=
  ∀ dout b : Bool,
    (initEvents.length = 3 ∧ rises dout (asEvents b initEvents) = 0 ∧ sigs dout (asEvents b initEvents) = [])
      ∧ (rderrEvents.length = 81 ∧ rises dout (asEvents b rderrEvents) = 30
        ∧ sigs dout (asEvents b rderrEvents) = [6, 9] ∧ latchedRises dout (asEvents b rderrEvents) = 15
        ∧ samples (asEvents b rderrEvents) = 16 ∧ settles (asEvents b rderrEvents) = 1
        ∧ dataEvents (asEvents b rderrEvents) = 0)
      ∧ (rdcfgEvents.length = 80 ∧ rises dout (asEvents b rdcfgEvents) = 31
        ∧ sigs dout (asEvents b rdcfgEvents) = [5] ∧ latchedRises dout (asEvents b rdcfgEvents) = 5
        ∧ samples (asEvents b rdcfgEvents) = 16 ∧ settles (asEvents b rdcfgEvents) = 0
        ∧ dataEvents (asEvents b rdcfgEvents) = 0)

/-! ## Pin events and composites -/

/-- `SET_DATA b` (40_primitives R66): DATA_OUT takes the level, the event is traced, nothing else changes. -/
def Obligations.SetDataCompletes : Prop :=
  ∀ (b : Bool) (s : State), exec (.setData b) s
    = .next { s with dout := b, trace := s.trace ++ [.pin (.d b)], upc := s.upc + 1, ports := s.ports.tail }

/-- `CLOCK_LOW` (40_primitives R68): CLOCK falls, and the target does nothing (46_target_device R121). -/
def Obligations.ClockLowCompletes : Prop :=
  ∀ s : State, exec .clockLow s
    = .next { s with clk := false, trace := s.trace ++ [.pin .cl], upc := s.upc + 1, ports := s.ports.tail }

/-- `CLOCK_HIGH` (40_primitives R67): an edge makes the target shift (46_target_device R121); with CLOCK high already it is a
redundant drive the target cannot see (40_primitives R64). -/
def Obligations.ClockHighCompletes : Prop :=
  ∀ s : State,
    (s.clk = false → ∃ u, AfterClockRise s.target u s.dout s.lat ∧ exec .clockHigh s
      = .next { s with clk := true, target := u, trace := s.trace ++ [.pin .ch], upc := s.upc + 1,
                       ports := s.ports.tail })
    ∧ (s.clk = true → exec .clockHigh s
      = .next { s with trace := s.trace ++ [.pin .ch], upc := s.upc + 1, ports := s.ports.tail })

/-- `LATCH_HIGH` (40_primitives R71): an edge clears the target's count and changes nothing else in it
(46_target_device R122); with LATCH high already it is a redundant drive. -/
def Obligations.LatchHighCompletes : Prop :=
  ∀ s : State,
    (s.lat = false → exec .latchHigh s
      = .next { s with lat := true, target := { s.target with lcnt := 0 }, trace := s.trace ++ [.pin .lh],
                       upc := s.upc + 1, ports := s.ports.tail })
    ∧ (s.lat = true → exec .latchHigh s
      = .next { s with trace := s.trace ++ [.pin .lh], upc := s.upc + 1, ports := s.ports.tail })

/-- `LATCH_LOW` (40_primitives R72): an edge makes the target react as the signature counted says
(46_target_device R123); with LATCH low already it is a redundant drive. -/
def Obligations.LatchLowCompletes : Prop :=
  ∀ s : State,
    (s.lat = true → ∃ t, exec (decodeSignature s.target.lcnt) s = .next t ∧ exec .latchLow s
      = .next { t with lat := false, trace := s.trace ++ [.pin .ll], upc := s.upc + 1, ports := s.ports.tail })
    ∧ (s.lat = false → exec .latchLow s
      = .next { s with trace := s.trace ++ [.pin .ll], upc := s.upc + 1, ports := s.ports.tail })

/-- `READ_DATA_IN` (40_primitives R74): the bit is the level of DATA_IN at this step, the environment's where it drives the
line (10_state R29), else bit 15 of `RB` inside the window, else the next free value (46_target_device R126). It is traced and
shifted into RXV (10_state R21); no pin level changes and the target is not affected. -/
def Obligations.ReadDataInCompletes : Prop :=
  ∀ s : State,
    (∀ b, s.port.dataIn = some b → ∃ v, ShiftedIn s.rxv v b ∧ exec .readDataIn s
      = .next { s with rxv := v, trace := s.trace ++ [.pin (.s b)], upc := s.upc + 1, ports := s.ports.tail })
    ∧ (s.port.dataIn = none → 0 < s.target.rbn.val → ∃ v, ShiftedIn s.rxv v (s.target.rb.getLsbD 15)
      ∧ exec .readDataIn s
        = .next { s with rxv := v, trace := s.trace ++ [.pin (.s (s.target.rb.getLsbD 15))], upc := s.upc + 1,
                         ports := s.ports.tail })
    ∧ (s.port.dataIn = none → s.target.rbn.val = 0 → ∃ v, ShiftedIn s.rxv v (Config.freeBit s.draws)
      ∧ exec .readDataIn s
        = .next { s with rxv := v, draws := s.draws + 1, trace := s.trace ++ [.pin (.s (Config.freeBit s.draws))],
                         upc := s.upc + 1, ports := s.ports.tail })

/-- `SETTLE` (40_primitives R75): no pin level changes, the event is traced, and the timer is idle after it. -/
def Obligations.SettleCompletes : Prop :=
  ∀ s : State, exec .settle s
    = .next { s with tmr := .idle, trace := s.trace ++ [.pin .w], upc := s.upc + 1, ports := s.ports.tail }

/-- `PULSE_CLOCK` (40_primitives R69) and `SEND_BIT b` (R70), each begun with CLOCK low: one CLOCK rising edge, with `b` on
DATA_OUT for `SEND_BIT`, and CLOCK low again. -/
def Obligations.PulsesComplete : Prop :=
  ∀ s : State, s.clk = false →
    (∃ u, AfterClockRise s.target u s.dout s.lat ∧ exec .pulseClock s
      = .next { s with clk := false, target := u, trace := s.trace ++ traced [.ch, .cl], upc := s.upc + 2,
                       ports := s.ports.drop 2 })
    ∧ (∀ b, ∃ u, AfterClockRise s.target u b s.lat ∧ exec (.sendBit b) s
      = .next { s with dout := b, clk := false, target := u, trace := s.trace ++ traced [.d b, .ch, .cl],
                       upc := s.upc + 3, ports := s.ports.drop 3 })

/-- `HOLD_END` (40_primitives R73), begun with CLOCK low and LATCH high: one more latched CLOCK rising edge, then the target
reacts to the signature, then CLOCK falls. -/
def Obligations.HoldEndCompletes : Prop :=
  ∀ s : State, s.clk = false → s.lat = true →
    ∃ u t, AfterClockRise s.target u s.dout true ∧ exec (decodeSignature u.lcnt) { s with target := u } = .next t
      ∧ exec .holdEnd s
        = .next { t with clk := false, lat := false, trace := s.trace ++ traced [.ch, .ll, .cl], upc := s.upc + 3,
                         ports := s.ports.drop 3 }

/-- Redundant drives (40_primitives R64): an event that drives a pin to the level it has changes no level and the target
cannot see it; and two lists that differ only by redundant drives produce the same waveform. -/
def Obligations.RedundantDrivesInvisible : Prop :=
  (∀ (s t : State) (m : Micro) (b : Bool), (m.event b).redundant s.pins = true → exec m.instr s = .next t →
      t.pins = s.pins ∧ t.target = s.target)
    ∧ (∀ (p : Pins) (l r : List Event), essential p l = essential p r → waveform p l = waveform p r)

/-! ## Reactions of the target -/

/-- `T_CLOCK_RISE` (46_target_device R121) and `T_LATCH_RISE` (R122): the first shifts, counts and advances the readback, the
second clears the count; neither changes anything else. -/
def Obligations.EdgeReactions : Prop :=
  ∀ s : State,
    (∃ u, AfterClockRise s.target u s.dout s.lat ∧ exec .tClockRise s = .next { s with target := u })
    ∧ exec .tLatchRise s = .next { s with target := { s.target with lcnt := 0 } }

/-- `T_DATA_LATCH` and `T_GLOBAL_LATCH` (46_target_device R123): the word in the shift register is pushed into the buffers;
only the global latch writes the live outputs, all 16 in the same step. -/
def Obligations.DataAndGlobalLatch : Prop :=
  ∀ s : State, ∃ v, Pushed s.target.buf v s.target.tsr
    ∧ exec .tDataLatch s = .next { s with target := { s.target with buf := v } }
    ∧ exec .tGlobalLatch s = .next { s with target := { s.target with buf := v, out := v } }

/-- `T_READ_CFG` and `T_WRITE_CFG` (46_target_device R125): the thermal-error bit is read as the next free value and kept by a
write; the other 15 bits are read and written, those the document does not name by the inference 92_eei_decisions D30 (log
entry 18). -/
def Obligations.ConfigReactions : Prop :=
  ∀ s : State,
    (∃ v, FlagFrom s.target.cfg (Config.freeWord s.draws) v
      ∧ exec .tReadCfg s = .next { s with target := { s.target with rb := v, rbn := 16 }, draws := s.draws + 1 })
    ∧ (∃ v, FlagFrom s.target.tsr s.target.cfg v
      ∧ exec .tWriteCfg s = .next { s with target := { s.target with cfg := v } })

/-- `T_EN_ERR` and `T_READ_ERR` (46_target_device R124): the error status becomes the next free value, or is selected for
reading. -/
def Obligations.ErrorReactions : Prop :=
  ∀ s : State,
    exec .tEnErr s
      = .next { s with target := { s.target with errstat := Config.freeWord s.draws }, draws := s.draws + 1 }
    ∧ exec .tReadErr s = .next { s with target := { s.target with rb := s.target.errstat, rbn := 16 } }

/-- `T_UNUSED_SIGNATURE` (46_target_device R127): TSR, BUF, CFG, ERRSTAT, RB and RBN become free values, OUT is unchanged
(and so are LCNT, which the rule does not name, log entry 15, and the whole controller). -/
def Obligations.UnusedSignatureKeepsOutputs : Prop :=
  ∀ (n : Nat) (s : State), exec (.tUnusedSignature n) s
    = .next { s with
        target := { s.target with
          tsr := Config.freeWord s.draws
          buf := Config.freeWords s.draws
          cfg := Config.freeWord (s.draws + 1)
          errstat := Config.freeWord (s.draws + 2)
          rb := Config.freeWord (s.draws + 3)
          rbn := Config.freeCount s.draws }
        draws := s.draws + 4 }

/-! ## Routines -/

/-- `SEND_DATA_WORD w` (41_grayscale_update R78), begun idle: 50 events, the word ends in the shift register and in the last
buffer, the live outputs, the configuration and the error status stay. -/
def Obligations.SendDataWordCompletes : Prop :=
  ∀ (w : Word) (s : State), s.clk = false → s.lat = false →
    ∃ t, exec (.sendDataWord w) s = .next t
      ∧ RoutineDone s t (w.getLsbD 0) ((List.range 50).map (dataWordAt w))
      ∧ t.rxv = s.rxv ∧ t.draws = s.draws
      ∧ t.target.tsr = w ∧ t.target.lcnt = 1 ∧ Pushed s.target.buf t.target.buf w ∧ t.target.out = s.target.out
      ∧ t.target.cfg = s.target.cfg ∧ t.target.errstat = s.target.errstat ∧ ReadbackAfter s.target t.target 16

/-- `SEND_GLOBAL_WORD w` (41_grayscale_update R79), begun idle: 50 events, the word is buffered and all 16 buffers become the
live outputs. -/
def Obligations.SendGlobalWordCompletes : Prop :=
  ∀ (w : Word) (s : State), s.clk = false → s.lat = false →
    ∃ t, exec (.sendGlobalWord w) s = .next t
      ∧ RoutineDone s t (w.getLsbD 0) ((List.range 50).map (globalWordAt w))
      ∧ t.rxv = s.rxv ∧ t.draws = s.draws
      ∧ t.target.tsr = w ∧ t.target.lcnt = 3 ∧ Pushed s.target.buf t.target.buf w ∧ t.target.out = t.target.buf
      ∧ t.target.cfg = s.target.cfg ∧ t.target.errstat = s.target.errstat ∧ ReadbackAfter s.target t.target 16

/-- `SEND_CFG_WORD v` (44_config_write R101), begun idle: 50 events, the configuration register takes the value but for its
thermal-error bit (46_target_device R125); buffers and outputs stay. That CFG takes the bits the document does not name as
sent is the inference 92_eei_decisions D30 (log entry 18). -/
def Obligations.SendCfgWordCompletes : Prop :=
  ∀ (v : Word) (s : State), s.clk = false → s.lat = false →
    ∃ t, exec (.sendCfgWord v) s = .next t
      ∧ RoutineDone s t (v.getLsbD 0) ((List.range 50).map (cfgWordAt v))
      ∧ t.rxv = s.rxv ∧ t.draws = s.draws
      ∧ t.target.tsr = v ∧ t.target.lcnt = 11 ∧ FlagFrom v s.target.cfg t.target.cfg
      ∧ t.target.buf = s.target.buf ∧ t.target.out = s.target.out
      ∧ t.target.errstat = s.target.errstat ∧ ReadbackAfter s.target t.target 16

/-- `PREP_CFG` (43_config_read R98), begun idle: 34 events, DATA_OUT keeps its level, the shift register fills with 16 copies
of it, and the configuration register is selected for reading, its thermal-error bit the next free value (46_target_device
R125). That the bits the document does not name are read as CFG holds them is the inference 92_eei_decisions D30 (log entry
18). -/
def Obligations.PrepCfgCompletes : Prop :=
  ∀ s : State, s.clk = false → s.lat = false →
    ∃ t, exec .prepCfg s = .next t ∧ RoutineDone s t s.dout prepCfgList
      ∧ t.rxv = s.rxv ∧ t.draws = s.draws + 1
      ∧ Filled s.target.tsr t.target.tsr 16 s.dout ∧ t.target.lcnt = 5
      ∧ FlagFrom s.target.cfg (Config.freeWord s.draws) t.target.rb ∧ t.target.rbn = 16
      ∧ t.target.buf = s.target.buf ∧ t.target.out = s.target.out ∧ t.target.cfg = s.target.cfg
      ∧ t.target.errstat = s.target.errstat

/-- `EN_ERR_DET` (42_error_report_read R88) and `PREP_ERR` (R90), each begun idle: 14 and 20 events, DATA_OUT keeps its level;
the first makes the error status the next free value, the second selects it for reading (46_target_device R124). -/
def Obligations.ErrorPrepareCompletes : Prop :=
  ∀ s : State, s.clk = false → s.lat = false →
    (∃ t, exec .enErrDet s = .next t ∧ RoutineDone s t s.dout enErrDetList
      ∧ t.rxv = s.rxv ∧ t.draws = s.draws + 1
      ∧ t.target.errstat = Config.freeWord s.draws
      ∧ Filled s.target.tsr t.target.tsr 6 s.dout ∧ t.target.lcnt = 6 ∧ ReadbackAfter s.target t.target 6
      ∧ t.target.buf = s.target.buf ∧ t.target.out = s.target.out ∧ t.target.cfg = s.target.cfg)
    ∧ (∃ t, exec .prepErr s = .next t ∧ RoutineDone s t s.dout prepErrList
      ∧ t.rxv = s.rxv ∧ t.draws = s.draws
      ∧ Filled s.target.tsr t.target.tsr 9 s.dout ∧ t.target.lcnt = 9
      ∧ t.target.rb = s.target.errstat ∧ t.target.rbn = 16
      ∧ t.target.buf = s.target.buf ∧ t.target.out = s.target.out ∧ t.target.cfg = s.target.cfg
      ∧ t.target.errstat = s.target.errstat)

/-- `READ_REG` (42_error_report_read R95, 30_encoding R57), begun idle: 46 events `[S P]x15 S`, and RXV is the 16 samples most
significant first, whatever they are; the sample of step `3j` is the environment's level where it drives the line. -/
def Obligations.ReadRegAssembles : Prop :=
  ∀ s : State, s.clk = false → s.lat = false →
    ∃ (t : State) (b : Fin 16 → Bool), exec .readReg s = .next t ∧ RoutineDone s t s.dout (readRegList b)
      ∧ AssembledFrom b t.rxv
      ∧ (∀ (j : Fin 16) (c : Bool), ((s.ports.drop (3 * j.val)).headD .quiet).dataIn = some c → b j = c)
      ∧ Filled s.target.tsr t.target.tsr 15 s.dout ∧ t.target.lcnt = s.target.lcnt
      ∧ ReadbackAfter s.target t.target 15
      ∧ t.target.buf = s.target.buf ∧ t.target.out = s.target.out ∧ t.target.cfg = s.target.cfg
      ∧ t.target.errstat = s.target.errstat

/-- `READ_REG` inside the window (42_error_report_read R94, 46_target_device R126): with all 16 bits of `RB` still to be
presented and the target driving the line, RXV is `RB`, and one bit of the window is left. -/
def Obligations.ReadRegReturnsReadback : Prop :=
  ∀ s : State, s.clk = false → s.lat = false → s.target.rbn = 16 → TargetDrives s 46 →
    ∃ t, exec .readReg s = .next t ∧ t.rxv = s.target.rb ∧ t.target.rbn = 1 ∧ t.draws = s.draws

/-- Running the machine over a routine is executing the routine: for as many steps as it has events, from its first event
in the command in progress, the steps do what `exec` says of it (30_encoding R62, 40_primitives R63); completion follows
where it is the last routine of its command (45_init_and_command_port R110). That a routine is an instruction of its own,
which takes as many steps of the ports as it has events, is log entry 11. -/
def Obligations.StepsPerformRoutines : Prop :=
  ∀ (s : State) (i : Instr) (l rest : List Micro), routineEvents i = some l → s.busy = true → s.NoReset l.length →
    s.events.drop s.upc.toNat = l ++ rest → run l.length s = finishStep (exec i s)

/-! ## Commands -/

/-- `INIT` is accepted whenever BUSY is 0 (45_init_and_command_port R117): OP, UPC and the flags, and no pin event. -/
def Obligations.InitAccepted : Prop :=
  ∀ s : State, s.busy = false → exec .init s
    = .next { s with op := 0, upc := 0, rspValid := false, busy := true, ports := s.ports.tail }

/-- `UPDATE` is accepted when BUSY is 0 and INITD is 1 (45_init_and_command_port R117), its words copied into WORDS. -/
def Obligations.UpdateAccepted : Prop :=
  ∀ (ws : Words) (s : State), s.busy = false → s.initd = true → exec (.update ws) s
    = .next { s with op := 1, words := ws, upc := 0, rspValid := false, busy := true, ports := s.ports.tail }

/-- `RDERR` and `RDCFG` are accepted when BUSY is 0 and INITD is 1 (45_init_and_command_port R117). -/
def Obligations.ReadsAccepted : Prop :=
  ∀ s : State, s.busy = false → s.initd = true →
    exec .rderr s = .next { s with op := 2, upc := 0, rspValid := false, busy := true, ports := s.ports.tail }
    ∧ exec .rdcfg s = .next { s with op := 3, upc := 0, rspValid := false, busy := true, ports := s.ports.tail }

/-- `WRCFG` with a legal gain is accepted when BUSY is 0 and INITD is 1 (45_init_and_command_port R117), and CFGDATA is
the mask OR-ed with the gain at bits 7:2: the gain reaches no other bit (30_encoding R56, 44_config_write R104). -/
def Obligations.WrcfgAccepted : Prop :=
  ∀ (mask : Word) (gain : BitVec 8) (s : State), s.busy = false → s.initd = true → gain.toNat ≤ 63 →
    ∃ v : Word, exec (.wrcfg mask gain) s
        = .next { s with op := 4, cfgdata := v, upc := 0, rspValid := false, busy := true, ports := s.ports.tail }
      ∧ (∀ i, 2 ≤ i → i < 8 → v.getLsbD i = (mask.getLsbD i || gain.getLsbD (i - 2)))
      ∧ (∀ i, i < 2 ∨ 8 ≤ i → v.getLsbD i = mask.getLsbD i)

/-- `INIT` comes first (45_init_and_command_port R114): any other command presented while INITD is 0 is refused as not
initialised. For a `WRCFG` whose gain is illegal too (30_encoding R59) it is stated only that it is refused: which reason it is given is
the model's choice (log entry 13). -/
def Obligations.RefusedBeforeInit : Prop :=
  ∀ s : State, s.busy = false → s.initd = false →
    (∀ ws, exec (.update ws) s = .refused .notInitialised)
    ∧ exec .rderr s = .refused .notInitialised
    ∧ exec .rdcfg s = .refused .notInitialised
    ∧ (∀ mask gain, ∃ r, exec (.wrcfg mask gain) s = .refused r ∧ (gain.toNat ≤ 63 → r = .notInitialised))

/-- Illegal commands (30_encoding R59): the reserved opcodes are refused in every state, and `WRCFG` with a gain of 64 to 255
wherever it would be looked at, that is with BUSY at 0. The rules do not say which reason is given where a command is illegal
and INITD is 0 as well (R114), nor that an illegal command is refused while BUSY is 1 (R118): that reserved opcode comes
first, then gain, then missing INIT, and that a reserved opcode is refused in every state, is the model's choice (log entry
13). -/
def Obligations.IllegalCommandsRefused : Prop :=
  ∀ s : State,
    exec .reserved101 s = .refused .reservedOpcode
    ∧ exec .reserved110 s = .refused .reservedOpcode
    ∧ exec .reserved111 s = .refused .reservedOpcode
    ∧ (∀ mask gain, s.busy = false → 64 ≤ gain.toNat → exec (.wrcfg mask gain) s = .refused .gainAbove63)

/-- While BUSY is 1 a presented command waits (45_init_and_command_port R118): executing it changes nothing, and the step does
not depend on what is at the command port. -/
def Obligations.BusyPortWaits : Prop :=
  ∀ s : State, s.busy = true →
    (∀ i, isCommand i = true → exec i s = .next s)
    ∧ (∀ (p q : PortIn) (rest : List PortIn), p.rst = q.rst → p.dataIn = q.dataIn →
        step { s with ports := p :: rest } = step { s with ports := q :: rest })

/-! ## Whole commands -/

/-- `INIT` as a whole (45_init_and_command_port R113): from any idle state, acceptance, in which BUSY is set, RSP_VALID is
cleared and no event is performed, and then three events; the pins end low and INITD is 1; the target is not touched. -/
def Obligations.InitRuns : Prop :=
  ∀ s : State, s.Idle → Presents s 0b000#3 → s.NoReset 4 →
    (∃ u, run 1 s = .next u ∧ u.busy = true ∧ u.rspValid = false ∧ u.pins = s.pins ∧ u.trace = s.trace)
      ∧ ∃ t, run 4 s = .next t ∧ t.pins = ⟨false, false, false⟩ ∧ t.initd = true ∧ t.busy = false ∧ t.rspValid = false
      ∧ t.trace = s.trace ++ traced [.d false, .cl, .ll] ∧ t.target = s.target ∧ t.ports = s.ports.drop 4

/-- `UPDATE` as a whole (41_grayscale_update R82, 46_target_device R128 item 1): from any idle state with INITD = 1 and any
state of the target, the 16 words become the buffers and the live outputs; the outputs are written once, at the last
event; configuration and error status stay; no response. -/
def Obligations.UpdateCommitsAllWords : Prop :=
  ∀ s : State, s.Idle → s.initd = true → Presents s 0b001#3 → s.NoReset 801 →
    ∃ t, run 801 s = .next t ∧ t.Idle ∧ t.initd = true ∧ t.rspValid = false
      ∧ (∀ k, ∀ h : k < 16, ∀ i < 16, t.target.out[k].getLsbD i = s.port.cmdWords.getLsbD (16 * k + i))
      ∧ t.target.buf = t.target.out
      ∧ (∀ n ≤ 800, ∃ u, run n s = .next u ∧ u.target.out = s.target.out)
      ∧ t.dout = s.port.cmdWords.getLsbD 240
      ∧ t.target.cfg = s.target.cfg ∧ t.target.errstat = s.target.errstat
      ∧ t.trace = s.trace ++ traced ((List.range 800).map (updateAt s.port.cmdWords))

/-- `UPDATE` cut short by a reset after `n` of its events (70_reset_and_hazards R141, 46_target_device R128 item 2): the live
outputs are untouched for `n` up to 797 and fully updated from 798 on, never in between. -/
def Obligations.TruncatedUpdateIsAllOrNothing : Prop :=
  ∀ (s : State) (n : Nat), s.Idle → s.initd = true → Presents s 0b001#3 → n ≤ 800 → s.NoReset (n + 1) →
    ((s.ports.drop (n + 1)).headD .quiet).rst = true →
    ∃ t, run (n + 2) s = .next t ∧ t.pins = ⟨false, false, false⟩ ∧ t.initd = false ∧ t.busy = false
      ∧ t.rspValid = false
      ∧ (n < 798 → t.target.out = s.target.out)
      ∧ (798 ≤ n → ∀ k, ∀ h : k < 16, ∀ i < 16,
          t.target.out[k].getLsbD i = s.port.cmdWords.getLsbD (16 * k + i))

/-- `RDERR` as a whole (42_error_report_read R96, R97): the response is the 16 samples most significant first, whatever they are;
where the target drives the line it is the error status, which is the free value drawn by this command's own `T_EN_ERR`
(46_target_device R124, R128 item 5). Buffers, outputs and configuration stay (item 6), and so does DATA_OUT. -/
def Obligations.RderrReturnsSamples : Prop :=
  ∀ s : State, s.Idle → s.initd = true → Presents s 0b010#3 → s.NoReset 82 →
    ∃ (t : State) (b : Fin 16 → Bool) (v : Word), run 82 s = .next t ∧ t.Idle ∧ t.dout = s.dout
      ∧ t.trace = s.trace ++ traced (enErrDetList ++ [.w] ++ prepErrList ++ readRegList b)
      ∧ AssembledFrom b v ∧ t.response = some (.errorReport v)
      ∧ t.target.errstat = Config.freeWord s.draws
      ∧ (TargetDrives s 82 → v = t.target.errstat)
      ∧ t.target.buf = s.target.buf ∧ t.target.out = s.target.out ∧ t.target.cfg = s.target.cfg

/-- `RDCFG` as a whole (43_config_read R99, R100): the response is the 16 samples most significant first; where the target
drives the line it is the configuration register but for the thermal-error bit, which is the free value drawn by this
command's own `T_READ_CFG` (46_target_device R125). That the bits the document does not name are read as CFG holds them is the
inference 92_eei_decisions D30 (log entry 18). Buffers, outputs and configuration stay. -/
def Obligations.RdcfgReturnsSamples : Prop :=
  ∀ s : State, s.Idle → s.initd = true → Presents s 0b011#3 → s.NoReset 81 →
    ∃ (t : State) (b : Fin 16 → Bool) (v : Word), run 81 s = .next t ∧ t.Idle ∧ t.dout = s.dout
      ∧ t.trace = s.trace ++ traced (prepCfgList ++ readRegList b)
      ∧ AssembledFrom b v ∧ t.response = some (.config v)
      ∧ (TargetDrives s 81 → FlagFrom s.target.cfg (Config.freeWord s.draws) v)
      ∧ t.target.buf = s.target.buf ∧ t.target.out = s.target.out ∧ t.target.cfg = s.target.cfg

/-- `WRCFG` as a whole (44_config_write R102): the configuration register takes `mask | (gain << 2)` but for its thermal-error
bit; buffers and outputs stay; no response. That CFG takes the bits the document does not name as sent is the inference
92_eei_decisions D30 (log entry 18). -/
def Obligations.WrcfgWritesConfiguration : Prop :=
  ∀ s : State, s.Idle → s.initd = true → Presents s 0b100#3 → s.port.cmdGain.toNat ≤ 63 → s.NoReset 51 →
    ∃ (t : State) (v : Word), v = s.port.cmdMask ||| (s.port.cmdGain.setWidth 16 <<< 2)
      ∧ run 51 s = .next t ∧ t.Idle ∧ t.rspValid = false ∧ t.dout = v.getLsbD 0
      ∧ FlagFrom v s.target.cfg t.target.cfg
      ∧ t.trace = s.trace ++ traced ((List.range 50).map (cfgWordAt v))
      ∧ t.target.buf = s.target.buf ∧ t.target.out = s.target.out ∧ t.target.errstat = s.target.errstat

/-- The configuration round trip (44_config_write R105, 46_target_device R128 item 4): `WRCFG mask, gain` with a gain of at most
63, then `RDCFG` with no command between, gives a response that agrees with `mask | (gain << 2)` outside the
thermal-error bit. That unnamed bits read back as written is INFERRED (92_eei_decisions D30, log
entry 18). -/
def Obligations.ConfigRoundTrip : Prop :=
  ∀ s : State, s.Idle → s.initd = true → Presents s 0b100#3 → s.port.cmdGain.toNat ≤ 63 → s.NoReset 132 →
    TargetDrives s 132 → ((s.ports.drop 51).headD .quiet).cmdValid = true →
    ((s.ports.drop 51).headD .quiet).cmdOp = 0b011#3 →
    ∃ (t : State) (v : Word), run 132 s = .next t ∧ t.response = some (.config v)
      ∧ v &&& ~~~Config.thermalErrorFlag
        = (s.port.cmdMask ||| (s.port.cmdGain.setWidth 16 <<< 2)) &&& ~~~Config.thermalErrorFlag

/-! ## Every step -/

/-- The invariant holds in the reset state. -/
def Obligations.ResetEstablishesInvariant : Prop := State.reset.Inv

/-- Every step keeps the invariant: idle pins while no command is in progress (10_state R26), a legal sequencer position,
pins and count where the events so far put them. -/
def Obligations.StepKeepsInvariant : Prop := ∀ s t : State, s.Inv → step s = .next t → t.Inv

/-- A command in progress always completes (45_init_and_command_port R110): in a state of the invariant, without a reset, every
step until its last event answers a next state with BUSY = 1, and the last one BUSY = 0. -/
def Obligations.BusyCommandsComplete : Prop :=
  ∀ s : State, s.Inv → s.busy = true → s.NoReset (s.events.length - s.upc.toNat) →
    (∀ j < s.events.length - s.upc.toNat, ∃ u, run j s = .next u ∧ u.busy = true)
      ∧ ∃ t, run (s.events.length - s.upc.toNat) s = .next t ∧ t.busy = false

/-- What completion writes (45_init_and_command_port R110): at the step that performs the last event BUSY falls; `RDERR` and
`RDCFG` deliver RXV under their tag, `INIT` sets INITD; the other commands write nothing else. -/
def Obligations.CompletionWrites : Prop :=
  ∀ (s t : State), s.port.rst = false → s.busy = true → s.upc.toNat + 1 = s.events.length → step s = .next t →
    t.busy = false
      ∧ t.initd = (s.initd || decide (s.op = 0b000#3))
      ∧ (s.op = 0b010#3 → t.rspValid = true ∧ t.rspTag = false ∧ t.rspData = t.rxv)
      ∧ (s.op = 0b011#3 → t.rspValid = true ∧ t.rspTag = true ∧ t.rspData = t.rxv)
      ∧ (s.op ≠ 0b010#3 → s.op ≠ 0b011#3 →
          t.rspValid = s.rspValid ∧ t.rspTag = s.rspTag ∧ t.rspData = s.rspData)

/-- No command produces a signature outside the table (30_encoding R53): where a step of the invariant's states lets LATCH
fall, the count is one of the six used signatures. -/
def Obligations.OnlyUsedSignatures : Prop :=
  ∀ s : State, s.Inv → s.fetch = .event .latchLow → s.lat = true → s.target.lcnt ∈ usedSignatures

/-- Data before clock (70_reset_and_hazards R143, 40_primitives R70): in a state of the invariant, no step but a reset changes
DATA_OUT while CLOCK is high. -/
def Obligations.DataHeldWhileClockHigh : Prop :=
  ∀ s t : State, s.Inv → s.port.rst = false → s.clk = true → step s = .next t → t.dout = s.dout

/-- The live outputs change only by a global latch, all 16 at once (46_target_device R123, R127, 41_grayscale_update R80): in
every state, a step that changes OUT lets LATCH fall at the count 3 and commits the buffered words. -/
def Obligations.OutputsChangeOnlyByGlobalLatch : Prop :=
  ∀ s t : State, step s = .next t → t.target.out = s.target.out
    ∨ (s.lat = true ∧ t.lat = false ∧ s.target.lcnt = 3 ∧ Pushed s.target.buf t.target.out s.target.tsr)

/-- A response persists (45_init_and_command_port R111): in a state of the invariant, a step that is no reset and accepts no
command leaves it as it is. -/
def Obligations.ResponsePersists : Prop :=
  ∀ s t : State, s.Inv → s.rspValid = true → s.port.rst = false → step s = .next t → t.busy = false →
    t.response = s.response

/-- The state after reset (10_state R34): the pins low, INITD, BUSY, UPC and RSP_VALID 0, the settle timer idle, the entry
RST in TRACE. -/
def Obligations.ResetState : Prop :=
  State.reset.pins = ⟨false, false, false⟩ ∧ State.reset.initd = false ∧ State.reset.busy = false
    ∧ State.reset.upc = 0 ∧ State.reset.rspValid = false ∧ State.reset.tmr = .idle ∧ State.reset.trace = [.rst]

/-- A step in which `rst` is asserted (70_reset_and_hazards R140), in any state: the three outputs are forced low together, the
flags and UPC are 0, the timer stops, RST is traced, no command is accepted; the target sees a LATCH fall if LATCH was
high and acts on the count, and else nothing. -/
def Obligations.ResetStep : Prop :=
  ∀ s : State, s.port.rst = true →
    ∃ t, step s = .next t ∧ t.pins = ⟨false, false, false⟩ ∧ t.initd = false ∧ t.busy = false ∧ t.upc = 0
      ∧ t.rspValid = false ∧ t.tmr = .idle ∧ t.trace = s.trace ++ [.rst] ∧ t.ports = s.ports.tail
      ∧ (s.lat = false → t.target = s.target)
      ∧ (s.lat = true → ∃ u, exec (decodeSignature s.target.lcnt) s = .next u ∧ t.target = u.target)

/-- A step runs the decoded instruction (40_primitives R63, 45_init_and_command_port R117): without a reset, while BUSY it executes
the event `EV(c)[UPC]`, RXV having been cleared where `READ_REG` begins, and then completes the command if that was the
last; while not BUSY it executes the command at the port, or nothing. -/
def Obligations.StepRunsDecoded : Prop :=
  ∀ s : State, s.port.rst = false →
    (∀ m, s.busy = true → s.events[s.upc.toNat]? = some m → step s = finishStep (exec m.instr s.beginRoutine))
    ∧ (∀ i, s.busy = false → s.port.cmdValid = true →
        decode (.host s.port.cmdOp s.port.cmdWords s.port.cmdMask s.port.cmdGain) = .ok i → step s = exec i s)
    ∧ (s.busy = false → s.port.cmdValid = false → step s = .next { s with ports := s.ports.tail })
end

