-- ==== Sys2Proof/Laws/State.lean ====
section
/-! SUPPORT. What each operation does to each field of the state: one lemma per field per operation, so that no later proof
unfolds a record update. Fields that an operation changes by a case split have lemmas of their own in Laws/Ops.lean. -/

namespace Sys2Proof.Machine

@[simp] theorem State.tick_dout (s : State) : (s.tick).dout = s.dout := rfl
@[simp] theorem State.tick_clk (s : State) : (s.tick).clk = s.clk := rfl
@[simp] theorem State.tick_lat (s : State) : (s.tick).lat = s.lat := rfl
@[simp] theorem State.tick_initd (s : State) : (s.tick).initd = s.initd := rfl
@[simp] theorem State.tick_busy (s : State) : (s.tick).busy = s.busy := rfl
@[simp] theorem State.tick_op (s : State) : (s.tick).op = s.op := rfl
@[simp] theorem State.tick_words (s : State) : (s.tick).words = s.words := rfl
@[simp] theorem State.tick_cfgdata (s : State) : (s.tick).cfgdata = s.cfgdata := rfl
@[simp] theorem State.tick_rxv (s : State) : (s.tick).rxv = s.rxv := rfl
@[simp] theorem State.tick_upc (s : State) : (s.tick).upc = s.upc := rfl
@[simp] theorem State.tick_rspValid (s : State) : (s.tick).rspValid = s.rspValid := rfl
@[simp] theorem State.tick_rspTag (s : State) : (s.tick).rspTag = s.rspTag := rfl
@[simp] theorem State.tick_rspData (s : State) : (s.tick).rspData = s.rspData := rfl
@[simp] theorem State.tick_tmr (s : State) : (s.tick).tmr = s.tmr := rfl
@[simp] theorem State.tick_trace (s : State) : (s.tick).trace = s.trace := rfl
@[simp] theorem State.tick_target (s : State) : (s.tick).target = s.target := rfl
@[simp] theorem State.tick_draws (s : State) : (s.tick).draws = s.draws := rfl
@[simp] theorem State.tick_ports (s : State) : (s.tick).ports = s.ports.tail := rfl

@[simp] theorem State.emit_dout (s : State) (e : Event) : (s.emit e).dout = s.dout := rfl
@[simp] theorem State.emit_clk (s : State) (e : Event) : (s.emit e).clk = s.clk := rfl
@[simp] theorem State.emit_lat (s : State) (e : Event) : (s.emit e).lat = s.lat := rfl
@[simp] theorem State.emit_initd (s : State) (e : Event) : (s.emit e).initd = s.initd := rfl
@[simp] theorem State.emit_busy (s : State) (e : Event) : (s.emit e).busy = s.busy := rfl
@[simp] theorem State.emit_op (s : State) (e : Event) : (s.emit e).op = s.op := rfl
@[simp] theorem State.emit_words (s : State) (e : Event) : (s.emit e).words = s.words := rfl
@[simp] theorem State.emit_cfgdata (s : State) (e : Event) : (s.emit e).cfgdata = s.cfgdata := rfl
@[simp] theorem State.emit_rxv (s : State) (e : Event) : (s.emit e).rxv = s.rxv := rfl
@[simp] theorem State.emit_upc (s : State) (e : Event) : (s.emit e).upc = s.upc + 1 := rfl
@[simp] theorem State.emit_rspValid (s : State) (e : Event) : (s.emit e).rspValid = s.rspValid := rfl
@[simp] theorem State.emit_rspTag (s : State) (e : Event) : (s.emit e).rspTag = s.rspTag := rfl
@[simp] theorem State.emit_rspData (s : State) (e : Event) : (s.emit e).rspData = s.rspData := rfl
@[simp] theorem State.emit_tmr (s : State) (e : Event) : (s.emit e).tmr = s.tmr := rfl
@[simp] theorem State.emit_trace (s : State) (e : Event) : (s.emit e).trace = s.trace ++ [.pin e] := rfl
@[simp] theorem State.emit_target (s : State) (e : Event) : (s.emit e).target = s.target := rfl
@[simp] theorem State.emit_draws (s : State) (e : Event) : (s.emit e).draws = s.draws := rfl
@[simp] theorem State.emit_ports (s : State) (e : Event) : (s.emit e).ports = s.ports.tail := rfl

@[simp] theorem State.clockRise_dout (s : State) : (s.clockRise).dout = s.dout := rfl
@[simp] theorem State.clockRise_clk (s : State) : (s.clockRise).clk = s.clk := rfl
@[simp] theorem State.clockRise_lat (s : State) : (s.clockRise).lat = s.lat := rfl
@[simp] theorem State.clockRise_initd (s : State) : (s.clockRise).initd = s.initd := rfl
@[simp] theorem State.clockRise_busy (s : State) : (s.clockRise).busy = s.busy := rfl
@[simp] theorem State.clockRise_op (s : State) : (s.clockRise).op = s.op := rfl
@[simp] theorem State.clockRise_words (s : State) : (s.clockRise).words = s.words := rfl
@[simp] theorem State.clockRise_cfgdata (s : State) : (s.clockRise).cfgdata = s.cfgdata := rfl
@[simp] theorem State.clockRise_rxv (s : State) : (s.clockRise).rxv = s.rxv := rfl
@[simp] theorem State.clockRise_upc (s : State) : (s.clockRise).upc = s.upc := rfl
@[simp] theorem State.clockRise_rspValid (s : State) : (s.clockRise).rspValid = s.rspValid := rfl
@[simp] theorem State.clockRise_rspTag (s : State) : (s.clockRise).rspTag = s.rspTag := rfl
@[simp] theorem State.clockRise_rspData (s : State) : (s.clockRise).rspData = s.rspData := rfl
@[simp] theorem State.clockRise_tmr (s : State) : (s.clockRise).tmr = s.tmr := rfl
@[simp] theorem State.clockRise_trace (s : State) : (s.clockRise).trace = s.trace := rfl
@[simp] theorem State.clockRise_target (s : State) : (s.clockRise).target = s.target.clockRise s.dout s.lat := rfl
@[simp] theorem State.clockRise_draws (s : State) : (s.clockRise).draws = s.draws := rfl
@[simp] theorem State.clockRise_ports (s : State) : (s.clockRise).ports = s.ports := rfl

@[simp] theorem State.latchRise_dout (s : State) : (s.latchRise).dout = s.dout := rfl
@[simp] theorem State.latchRise_clk (s : State) : (s.latchRise).clk = s.clk := rfl
@[simp] theorem State.latchRise_lat (s : State) : (s.latchRise).lat = s.lat := rfl
@[simp] theorem State.latchRise_initd (s : State) : (s.latchRise).initd = s.initd := rfl
@[simp] theorem State.latchRise_busy (s : State) : (s.latchRise).busy = s.busy := rfl
@[simp] theorem State.latchRise_op (s : State) : (s.latchRise).op = s.op := rfl
@[simp] theorem State.latchRise_words (s : State) : (s.latchRise).words = s.words := rfl
@[simp] theorem State.latchRise_cfgdata (s : State) : (s.latchRise).cfgdata = s.cfgdata := rfl
@[simp] theorem State.latchRise_rxv (s : State) : (s.latchRise).rxv = s.rxv := rfl
@[simp] theorem State.latchRise_upc (s : State) : (s.latchRise).upc = s.upc := rfl
@[simp] theorem State.latchRise_rspValid (s : State) : (s.latchRise).rspValid = s.rspValid := rfl
@[simp] theorem State.latchRise_rspTag (s : State) : (s.latchRise).rspTag = s.rspTag := rfl
@[simp] theorem State.latchRise_rspData (s : State) : (s.latchRise).rspData = s.rspData := rfl
@[simp] theorem State.latchRise_tmr (s : State) : (s.latchRise).tmr = s.tmr := rfl
@[simp] theorem State.latchRise_trace (s : State) : (s.latchRise).trace = s.trace := rfl
@[simp] theorem State.latchRise_target (s : State) : (s.latchRise).target = { s.target with lcnt := 0 } := rfl
@[simp] theorem State.latchRise_draws (s : State) : (s.latchRise).draws = s.draws := rfl
@[simp] theorem State.latchRise_ports (s : State) : (s.latchRise).ports = s.ports := rfl

@[simp] theorem State.dataLatch_dout (s : State) : (s.dataLatch).dout = s.dout := rfl
@[simp] theorem State.dataLatch_clk (s : State) : (s.dataLatch).clk = s.clk := rfl
@[simp] theorem State.dataLatch_lat (s : State) : (s.dataLatch).lat = s.lat := rfl
@[simp] theorem State.dataLatch_initd (s : State) : (s.dataLatch).initd = s.initd := rfl
@[simp] theorem State.dataLatch_busy (s : State) : (s.dataLatch).busy = s.busy := rfl
@[simp] theorem State.dataLatch_op (s : State) : (s.dataLatch).op = s.op := rfl
@[simp] theorem State.dataLatch_words (s : State) : (s.dataLatch).words = s.words := rfl
@[simp] theorem State.dataLatch_cfgdata (s : State) : (s.dataLatch).cfgdata = s.cfgdata := rfl
@[simp] theorem State.dataLatch_rxv (s : State) : (s.dataLatch).rxv = s.rxv := rfl
@[simp] theorem State.dataLatch_upc (s : State) : (s.dataLatch).upc = s.upc := rfl
@[simp] theorem State.dataLatch_rspValid (s : State) : (s.dataLatch).rspValid = s.rspValid := rfl
@[simp] theorem State.dataLatch_rspTag (s : State) : (s.dataLatch).rspTag = s.rspTag := rfl
@[simp] theorem State.dataLatch_rspData (s : State) : (s.dataLatch).rspData = s.rspData := rfl
@[simp] theorem State.dataLatch_tmr (s : State) : (s.dataLatch).tmr = s.tmr := rfl
@[simp] theorem State.dataLatch_trace (s : State) : (s.dataLatch).trace = s.trace := rfl
@[simp] theorem State.dataLatch_target (s : State) : (s.dataLatch).target = { s.target with buf := pushWord s.target.buf s.target.tsr } := rfl
@[simp] theorem State.dataLatch_draws (s : State) : (s.dataLatch).draws = s.draws := rfl
@[simp] theorem State.dataLatch_ports (s : State) : (s.dataLatch).ports = s.ports := rfl

@[simp] theorem State.globalLatch_dout (s : State) : (s.globalLatch).dout = s.dout := rfl
@[simp] theorem State.globalLatch_clk (s : State) : (s.globalLatch).clk = s.clk := rfl
@[simp] theorem State.globalLatch_lat (s : State) : (s.globalLatch).lat = s.lat := rfl
@[simp] theorem State.globalLatch_initd (s : State) : (s.globalLatch).initd = s.initd := rfl
@[simp] theorem State.globalLatch_busy (s : State) : (s.globalLatch).busy = s.busy := rfl
@[simp] theorem State.globalLatch_op (s : State) : (s.globalLatch).op = s.op := rfl
@[simp] theorem State.globalLatch_words (s : State) : (s.globalLatch).words = s.words := rfl
@[simp] theorem State.globalLatch_cfgdata (s : State) : (s.globalLatch).cfgdata = s.cfgdata := rfl
@[simp] theorem State.globalLatch_rxv (s : State) : (s.globalLatch).rxv = s.rxv := rfl
@[simp] theorem State.globalLatch_upc (s : State) : (s.globalLatch).upc = s.upc := rfl
@[simp] theorem State.globalLatch_rspValid (s : State) : (s.globalLatch).rspValid = s.rspValid := rfl
@[simp] theorem State.globalLatch_rspTag (s : State) : (s.globalLatch).rspTag = s.rspTag := rfl
@[simp] theorem State.globalLatch_rspData (s : State) : (s.globalLatch).rspData = s.rspData := rfl
@[simp] theorem State.globalLatch_tmr (s : State) : (s.globalLatch).tmr = s.tmr := rfl
@[simp] theorem State.globalLatch_trace (s : State) : (s.globalLatch).trace = s.trace := rfl
@[simp] theorem State.globalLatch_target (s : State) : (s.globalLatch).target = { s.target with buf := pushWord s.target.buf s.target.tsr, out := pushWord s.target.buf s.target.tsr } := rfl
@[simp] theorem State.globalLatch_draws (s : State) : (s.globalLatch).draws = s.draws := rfl
@[simp] theorem State.globalLatch_ports (s : State) : (s.globalLatch).ports = s.ports := rfl

@[simp] theorem State.selectCfg_dout (s : State) : (s.selectCfg).dout = s.dout := rfl
@[simp] theorem State.selectCfg_clk (s : State) : (s.selectCfg).clk = s.clk := rfl
@[simp] theorem State.selectCfg_lat (s : State) : (s.selectCfg).lat = s.lat := rfl
@[simp] theorem State.selectCfg_initd (s : State) : (s.selectCfg).initd = s.initd := rfl
@[simp] theorem State.selectCfg_busy (s : State) : (s.selectCfg).busy = s.busy := rfl
@[simp] theorem State.selectCfg_op (s : State) : (s.selectCfg).op = s.op := rfl
@[simp] theorem State.selectCfg_words (s : State) : (s.selectCfg).words = s.words := rfl
@[simp] theorem State.selectCfg_cfgdata (s : State) : (s.selectCfg).cfgdata = s.cfgdata := rfl
@[simp] theorem State.selectCfg_rxv (s : State) : (s.selectCfg).rxv = s.rxv := rfl
@[simp] theorem State.selectCfg_upc (s : State) : (s.selectCfg).upc = s.upc := rfl
@[simp] theorem State.selectCfg_rspValid (s : State) : (s.selectCfg).rspValid = s.rspValid := rfl
@[simp] theorem State.selectCfg_rspTag (s : State) : (s.selectCfg).rspTag = s.rspTag := rfl
@[simp] theorem State.selectCfg_rspData (s : State) : (s.selectCfg).rspData = s.rspData := rfl
@[simp] theorem State.selectCfg_tmr (s : State) : (s.selectCfg).tmr = s.tmr := rfl
@[simp] theorem State.selectCfg_trace (s : State) : (s.selectCfg).trace = s.trace := rfl
@[simp] theorem State.selectCfg_target (s : State) : (s.selectCfg).target = { s.target with rb := withFlagOf s.target.cfg (Config.freeWord s.draws), rbn := 16 } := rfl
@[simp] theorem State.selectCfg_draws (s : State) : (s.selectCfg).draws = s.draws + 1 := rfl
@[simp] theorem State.selectCfg_ports (s : State) : (s.selectCfg).ports = s.ports := rfl

@[simp] theorem State.detectErrors_dout (s : State) : (s.detectErrors).dout = s.dout := rfl
@[simp] theorem State.detectErrors_clk (s : State) : (s.detectErrors).clk = s.clk := rfl
@[simp] theorem State.detectErrors_lat (s : State) : (s.detectErrors).lat = s.lat := rfl
@[simp] theorem State.detectErrors_initd (s : State) : (s.detectErrors).initd = s.initd := rfl
@[simp] theorem State.detectErrors_busy (s : State) : (s.detectErrors).busy = s.busy := rfl
@[simp] theorem State.detectErrors_op (s : State) : (s.detectErrors).op = s.op := rfl
@[simp] theorem State.detectErrors_words (s : State) : (s.detectErrors).words = s.words := rfl
@[simp] theorem State.detectErrors_cfgdata (s : State) : (s.detectErrors).cfgdata = s.cfgdata := rfl
@[simp] theorem State.detectErrors_rxv (s : State) : (s.detectErrors).rxv = s.rxv := rfl
@[simp] theorem State.detectErrors_upc (s : State) : (s.detectErrors).upc = s.upc := rfl
@[simp] theorem State.detectErrors_rspValid (s : State) : (s.detectErrors).rspValid = s.rspValid := rfl
@[simp] theorem State.detectErrors_rspTag (s : State) : (s.detectErrors).rspTag = s.rspTag := rfl
@[simp] theorem State.detectErrors_rspData (s : State) : (s.detectErrors).rspData = s.rspData := rfl
@[simp] theorem State.detectErrors_tmr (s : State) : (s.detectErrors).tmr = s.tmr := rfl
@[simp] theorem State.detectErrors_trace (s : State) : (s.detectErrors).trace = s.trace := rfl
@[simp] theorem State.detectErrors_target (s : State) : (s.detectErrors).target = { s.target with errstat := Config.freeWord s.draws } := rfl
@[simp] theorem State.detectErrors_draws (s : State) : (s.detectErrors).draws = s.draws + 1 := rfl
@[simp] theorem State.detectErrors_ports (s : State) : (s.detectErrors).ports = s.ports := rfl

@[simp] theorem State.selectErr_dout (s : State) : (s.selectErr).dout = s.dout := rfl
@[simp] theorem State.selectErr_clk (s : State) : (s.selectErr).clk = s.clk := rfl
@[simp] theorem State.selectErr_lat (s : State) : (s.selectErr).lat = s.lat := rfl
@[simp] theorem State.selectErr_initd (s : State) : (s.selectErr).initd = s.initd := rfl
@[simp] theorem State.selectErr_busy (s : State) : (s.selectErr).busy = s.busy := rfl
@[simp] theorem State.selectErr_op (s : State) : (s.selectErr).op = s.op := rfl
@[simp] theorem State.selectErr_words (s : State) : (s.selectErr).words = s.words := rfl
@[simp] theorem State.selectErr_cfgdata (s : State) : (s.selectErr).cfgdata = s.cfgdata := rfl
@[simp] theorem State.selectErr_rxv (s : State) : (s.selectErr).rxv = s.rxv := rfl
@[simp] theorem State.selectErr_upc (s : State) : (s.selectErr).upc = s.upc := rfl
@[simp] theorem State.selectErr_rspValid (s : State) : (s.selectErr).rspValid = s.rspValid := rfl
@[simp] theorem State.selectErr_rspTag (s : State) : (s.selectErr).rspTag = s.rspTag := rfl
@[simp] theorem State.selectErr_rspData (s : State) : (s.selectErr).rspData = s.rspData := rfl
@[simp] theorem State.selectErr_tmr (s : State) : (s.selectErr).tmr = s.tmr := rfl
@[simp] theorem State.selectErr_trace (s : State) : (s.selectErr).trace = s.trace := rfl
@[simp] theorem State.selectErr_target (s : State) : (s.selectErr).target = { s.target with rb := s.target.errstat, rbn := 16 } := rfl
@[simp] theorem State.selectErr_draws (s : State) : (s.selectErr).draws = s.draws := rfl
@[simp] theorem State.selectErr_ports (s : State) : (s.selectErr).ports = s.ports := rfl

@[simp] theorem State.writeCfg_dout (s : State) : (s.writeCfg).dout = s.dout := rfl
@[simp] theorem State.writeCfg_clk (s : State) : (s.writeCfg).clk = s.clk := rfl
@[simp] theorem State.writeCfg_lat (s : State) : (s.writeCfg).lat = s.lat := rfl
@[simp] theorem State.writeCfg_initd (s : State) : (s.writeCfg).initd = s.initd := rfl
@[simp] theorem State.writeCfg_busy (s : State) : (s.writeCfg).busy = s.busy := rfl
@[simp] theorem State.writeCfg_op (s : State) : (s.writeCfg).op = s.op := rfl
@[simp] theorem State.writeCfg_words (s : State) : (s.writeCfg).words = s.words := rfl
@[simp] theorem State.writeCfg_cfgdata (s : State) : (s.writeCfg).cfgdata = s.cfgdata := rfl
@[simp] theorem State.writeCfg_rxv (s : State) : (s.writeCfg).rxv = s.rxv := rfl
@[simp] theorem State.writeCfg_upc (s : State) : (s.writeCfg).upc = s.upc := rfl
@[simp] theorem State.writeCfg_rspValid (s : State) : (s.writeCfg).rspValid = s.rspValid := rfl
@[simp] theorem State.writeCfg_rspTag (s : State) : (s.writeCfg).rspTag = s.rspTag := rfl
@[simp] theorem State.writeCfg_rspData (s : State) : (s.writeCfg).rspData = s.rspData := rfl
@[simp] theorem State.writeCfg_tmr (s : State) : (s.writeCfg).tmr = s.tmr := rfl
@[simp] theorem State.writeCfg_trace (s : State) : (s.writeCfg).trace = s.trace := rfl
@[simp] theorem State.writeCfg_target (s : State) : (s.writeCfg).target = { s.target with cfg := withFlagOf s.target.tsr s.target.cfg } := rfl
@[simp] theorem State.writeCfg_draws (s : State) : (s.writeCfg).draws = s.draws := rfl
@[simp] theorem State.writeCfg_ports (s : State) : (s.writeCfg).ports = s.ports := rfl

@[simp] theorem State.unusedSignature_dout (s : State) : (s.unusedSignature).dout = s.dout := rfl
@[simp] theorem State.unusedSignature_clk (s : State) : (s.unusedSignature).clk = s.clk := rfl
@[simp] theorem State.unusedSignature_lat (s : State) : (s.unusedSignature).lat = s.lat := rfl
@[simp] theorem State.unusedSignature_initd (s : State) : (s.unusedSignature).initd = s.initd := rfl
@[simp] theorem State.unusedSignature_busy (s : State) : (s.unusedSignature).busy = s.busy := rfl
@[simp] theorem State.unusedSignature_op (s : State) : (s.unusedSignature).op = s.op := rfl
@[simp] theorem State.unusedSignature_words (s : State) : (s.unusedSignature).words = s.words := rfl
@[simp] theorem State.unusedSignature_cfgdata (s : State) : (s.unusedSignature).cfgdata = s.cfgdata := rfl
@[simp] theorem State.unusedSignature_rxv (s : State) : (s.unusedSignature).rxv = s.rxv := rfl
@[simp] theorem State.unusedSignature_upc (s : State) : (s.unusedSignature).upc = s.upc := rfl
@[simp] theorem State.unusedSignature_rspValid (s : State) : (s.unusedSignature).rspValid = s.rspValid := rfl
@[simp] theorem State.unusedSignature_rspTag (s : State) : (s.unusedSignature).rspTag = s.rspTag := rfl
@[simp] theorem State.unusedSignature_rspData (s : State) : (s.unusedSignature).rspData = s.rspData := rfl
@[simp] theorem State.unusedSignature_tmr (s : State) : (s.unusedSignature).tmr = s.tmr := rfl
@[simp] theorem State.unusedSignature_trace (s : State) : (s.unusedSignature).trace = s.trace := rfl
@[simp] theorem State.unusedSignature_draws (s : State) : (s.unusedSignature).draws = s.draws + 4 := rfl
@[simp] theorem State.unusedSignature_ports (s : State) : (s.unusedSignature).ports = s.ports := rfl

@[simp] theorem State.latchFall_dout (s : State) : (s.latchFall).dout = s.dout := by
  unfold State.latchFall; split <;> rfl
@[simp] theorem State.latchFall_clk (s : State) : (s.latchFall).clk = s.clk := by
  unfold State.latchFall; split <;> rfl
@[simp] theorem State.latchFall_lat (s : State) : (s.latchFall).lat = s.lat := by
  unfold State.latchFall; split <;> rfl
@[simp] theorem State.latchFall_initd (s : State) : (s.latchFall).initd = s.initd := by
  unfold State.latchFall; split <;> rfl
@[simp] theorem State.latchFall_busy (s : State) : (s.latchFall).busy = s.busy := by
  unfold State.latchFall; split <;> rfl
@[simp] theorem State.latchFall_op (s : State) : (s.latchFall).op = s.op := by
  unfold State.latchFall; split <;> rfl
@[simp] theorem State.latchFall_words (s : State) : (s.latchFall).words = s.words := by
  unfold State.latchFall; split <;> rfl
@[simp] theorem State.latchFall_cfgdata (s : State) : (s.latchFall).cfgdata = s.cfgdata := by
  unfold State.latchFall; split <;> rfl
@[simp] theorem State.latchFall_rxv (s : State) : (s.latchFall).rxv = s.rxv := by
  unfold State.latchFall; split <;> rfl
@[simp] theorem State.latchFall_upc (s : State) : (s.latchFall).upc = s.upc := by
  unfold State.latchFall; split <;> rfl
@[simp] theorem State.latchFall_rspValid (s : State) : (s.latchFall).rspValid = s.rspValid := by
  unfold State.latchFall; split <;> rfl
@[simp] theorem State.latchFall_rspTag (s : State) : (s.latchFall).rspTag = s.rspTag := by
  unfold State.latchFall; split <;> rfl
@[simp] theorem State.latchFall_rspData (s : State) : (s.latchFall).rspData = s.rspData := by
  unfold State.latchFall; split <;> rfl
@[simp] theorem State.latchFall_tmr (s : State) : (s.latchFall).tmr = s.tmr := by
  unfold State.latchFall; split <;> rfl
@[simp] theorem State.latchFall_trace (s : State) : (s.latchFall).trace = s.trace := by
  unfold State.latchFall; split <;> rfl
@[simp] theorem State.latchFall_ports (s : State) : (s.latchFall).ports = s.ports := by
  unfold State.latchFall; split <;> rfl

@[simp] theorem State.driveData_dout (s : State) (b : Bool) : (s.driveData b).dout = b := rfl
@[simp] theorem State.driveData_clk (s : State) (b : Bool) : (s.driveData b).clk = s.clk := rfl
@[simp] theorem State.driveData_lat (s : State) (b : Bool) : (s.driveData b).lat = s.lat := rfl
@[simp] theorem State.driveData_initd (s : State) (b : Bool) : (s.driveData b).initd = s.initd := rfl
@[simp] theorem State.driveData_busy (s : State) (b : Bool) : (s.driveData b).busy = s.busy := rfl
@[simp] theorem State.driveData_op (s : State) (b : Bool) : (s.driveData b).op = s.op := rfl
@[simp] theorem State.driveData_words (s : State) (b : Bool) : (s.driveData b).words = s.words := rfl
@[simp] theorem State.driveData_cfgdata (s : State) (b : Bool) : (s.driveData b).cfgdata = s.cfgdata := rfl
@[simp] theorem State.driveData_rxv (s : State) (b : Bool) : (s.driveData b).rxv = s.rxv := rfl
@[simp] theorem State.driveData_upc (s : State) (b : Bool) : (s.driveData b).upc = s.upc + 1 := rfl
@[simp] theorem State.driveData_rspValid (s : State) (b : Bool) : (s.driveData b).rspValid = s.rspValid := rfl
@[simp] theorem State.driveData_rspTag (s : State) (b : Bool) : (s.driveData b).rspTag = s.rspTag := rfl
@[simp] theorem State.driveData_rspData (s : State) (b : Bool) : (s.driveData b).rspData = s.rspData := rfl
@[simp] theorem State.driveData_tmr (s : State) (b : Bool) : (s.driveData b).tmr = s.tmr := rfl
@[simp] theorem State.driveData_trace (s : State) (b : Bool) : (s.driveData b).trace = s.trace ++ [.pin (.d b)] := rfl
@[simp] theorem State.driveData_target (s : State) (b : Bool) : (s.driveData b).target = s.target := rfl
@[simp] theorem State.driveData_draws (s : State) (b : Bool) : (s.driveData b).draws = s.draws := rfl
@[simp] theorem State.driveData_ports (s : State) (b : Bool) : (s.driveData b).ports = s.ports.tail := rfl

@[simp] theorem State.lowerClock_dout (s : State) : (s.lowerClock).dout = s.dout := rfl
@[simp] theorem State.lowerClock_clk (s : State) : (s.lowerClock).clk = false := rfl
@[simp] theorem State.lowerClock_lat (s : State) : (s.lowerClock).lat = s.lat := rfl
@[simp] theorem State.lowerClock_initd (s : State) : (s.lowerClock).initd = s.initd := rfl
@[simp] theorem State.lowerClock_busy (s : State) : (s.lowerClock).busy = s.busy := rfl
@[simp] theorem State.lowerClock_op (s : State) : (s.lowerClock).op = s.op := rfl
@[simp] theorem State.lowerClock_words (s : State) : (s.lowerClock).words = s.words := rfl
@[simp] theorem State.lowerClock_cfgdata (s : State) : (s.lowerClock).cfgdata = s.cfgdata := rfl
@[simp] theorem State.lowerClock_rxv (s : State) : (s.lowerClock).rxv = s.rxv := rfl
@[simp] theorem State.lowerClock_upc (s : State) : (s.lowerClock).upc = s.upc + 1 := rfl
@[simp] theorem State.lowerClock_rspValid (s : State) : (s.lowerClock).rspValid = s.rspValid := rfl
@[simp] theorem State.lowerClock_rspTag (s : State) : (s.lowerClock).rspTag = s.rspTag := rfl
@[simp] theorem State.lowerClock_rspData (s : State) : (s.lowerClock).rspData = s.rspData := rfl
@[simp] theorem State.lowerClock_tmr (s : State) : (s.lowerClock).tmr = s.tmr := rfl
@[simp] theorem State.lowerClock_trace (s : State) : (s.lowerClock).trace = s.trace ++ [.pin .cl] := rfl
@[simp] theorem State.lowerClock_target (s : State) : (s.lowerClock).target = s.target := rfl
@[simp] theorem State.lowerClock_draws (s : State) : (s.lowerClock).draws = s.draws := rfl
@[simp] theorem State.lowerClock_ports (s : State) : (s.lowerClock).ports = s.ports.tail := rfl

@[simp] theorem State.raiseClock_dout (s : State) : (s.raiseClock).dout = s.dout := by
  unfold State.raiseClock; split <;> rfl
@[simp] theorem State.raiseClock_clk (s : State) : (s.raiseClock).clk = true := by
  unfold State.raiseClock; split <;> rfl
@[simp] theorem State.raiseClock_lat (s : State) : (s.raiseClock).lat = s.lat := by
  unfold State.raiseClock; split <;> rfl
@[simp] theorem State.raiseClock_initd (s : State) : (s.raiseClock).initd = s.initd := by
  unfold State.raiseClock; split <;> rfl
@[simp] theorem State.raiseClock_busy (s : State) : (s.raiseClock).busy = s.busy := by
  unfold State.raiseClock; split <;> rfl
@[simp] theorem State.raiseClock_op (s : State) : (s.raiseClock).op = s.op := by
  unfold State.raiseClock; split <;> rfl
@[simp] theorem State.raiseClock_words (s : State) : (s.raiseClock).words = s.words := by
  unfold State.raiseClock; split <;> rfl
@[simp] theorem State.raiseClock_cfgdata (s : State) : (s.raiseClock).cfgdata = s.cfgdata := by
  unfold State.raiseClock; split <;> rfl
@[simp] theorem State.raiseClock_rxv (s : State) : (s.raiseClock).rxv = s.rxv := by
  unfold State.raiseClock; split <;> rfl
@[simp] theorem State.raiseClock_upc (s : State) : (s.raiseClock).upc = s.upc + 1 := by
  unfold State.raiseClock; split <;> rfl
@[simp] theorem State.raiseClock_rspValid (s : State) : (s.raiseClock).rspValid = s.rspValid := by
  unfold State.raiseClock; split <;> rfl
@[simp] theorem State.raiseClock_rspTag (s : State) : (s.raiseClock).rspTag = s.rspTag := by
  unfold State.raiseClock; split <;> rfl
@[simp] theorem State.raiseClock_rspData (s : State) : (s.raiseClock).rspData = s.rspData := by
  unfold State.raiseClock; split <;> rfl
@[simp] theorem State.raiseClock_tmr (s : State) : (s.raiseClock).tmr = s.tmr := by
  unfold State.raiseClock; split <;> rfl
@[simp] theorem State.raiseClock_trace (s : State) : (s.raiseClock).trace = s.trace ++ [.pin .ch] := by
  unfold State.raiseClock; split <;> rfl
@[simp] theorem State.raiseClock_target (s : State) : (s.raiseClock).target = if s.clk then s.target else s.target.clockRise s.dout s.lat := by
  unfold State.raiseClock; split <;> rfl
@[simp] theorem State.raiseClock_draws (s : State) : (s.raiseClock).draws = s.draws := by
  unfold State.raiseClock; split <;> rfl
@[simp] theorem State.raiseClock_ports (s : State) : (s.raiseClock).ports = s.ports.tail := by
  unfold State.raiseClock; split <;> rfl

@[simp] theorem State.raiseLatch_dout (s : State) : (s.raiseLatch).dout = s.dout := by
  unfold State.raiseLatch; split <;> rfl
@[simp] theorem State.raiseLatch_clk (s : State) : (s.raiseLatch).clk = s.clk := by
  unfold State.raiseLatch; split <;> rfl
@[simp] theorem State.raiseLatch_lat (s : State) : (s.raiseLatch).lat = true := by
  unfold State.raiseLatch; split <;> rfl
@[simp] theorem State.raiseLatch_initd (s : State) : (s.raiseLatch).initd = s.initd := by
  unfold State.raiseLatch; split <;> rfl
@[simp] theorem State.raiseLatch_busy (s : State) : (s.raiseLatch).busy = s.busy := by
  unfold State.raiseLatch; split <;> rfl
@[simp] theorem State.raiseLatch_op (s : State) : (s.raiseLatch).op = s.op := by
  unfold State.raiseLatch; split <;> rfl
@[simp] theorem State.raiseLatch_words (s : State) : (s.raiseLatch).words = s.words := by
  unfold State.raiseLatch; split <;> rfl
@[simp] theorem State.raiseLatch_cfgdata (s : State) : (s.raiseLatch).cfgdata = s.cfgdata := by
  unfold State.raiseLatch; split <;> rfl
@[simp] theorem State.raiseLatch_rxv (s : State) : (s.raiseLatch).rxv = s.rxv := by
  unfold State.raiseLatch; split <;> rfl
@[simp] theorem State.raiseLatch_upc (s : State) : (s.raiseLatch).upc = s.upc + 1 := by
  unfold State.raiseLatch; split <;> rfl
@[simp] theorem State.raiseLatch_rspValid (s : State) : (s.raiseLatch).rspValid = s.rspValid := by
  unfold State.raiseLatch; split <;> rfl
@[simp] theorem State.raiseLatch_rspTag (s : State) : (s.raiseLatch).rspTag = s.rspTag := by
  unfold State.raiseLatch; split <;> rfl
@[simp] theorem State.raiseLatch_rspData (s : State) : (s.raiseLatch).rspData = s.rspData := by
  unfold State.raiseLatch; split <;> rfl
@[simp] theorem State.raiseLatch_tmr (s : State) : (s.raiseLatch).tmr = s.tmr := by
  unfold State.raiseLatch; split <;> rfl
@[simp] theorem State.raiseLatch_trace (s : State) : (s.raiseLatch).trace = s.trace ++ [.pin .lh] := by
  unfold State.raiseLatch; split <;> rfl
@[simp] theorem State.raiseLatch_target (s : State) : (s.raiseLatch).target = if s.lat then s.target else { s.target with lcnt := 0 } := by
  unfold State.raiseLatch; split <;> rfl
@[simp] theorem State.raiseLatch_draws (s : State) : (s.raiseLatch).draws = s.draws := by
  unfold State.raiseLatch; split <;> rfl
@[simp] theorem State.raiseLatch_ports (s : State) : (s.raiseLatch).ports = s.ports.tail := by
  unfold State.raiseLatch; split <;> rfl

@[simp] theorem State.lowerLatch_dout (s : State) : (s.lowerLatch).dout = s.dout := by
  unfold State.lowerLatch; split <;> simp [State.emit]
@[simp] theorem State.lowerLatch_clk (s : State) : (s.lowerLatch).clk = s.clk := by
  unfold State.lowerLatch; split <;> simp [State.emit]
@[simp] theorem State.lowerLatch_lat (s : State) : (s.lowerLatch).lat = false := by
  unfold State.lowerLatch; split <;> simp [State.emit]
@[simp] theorem State.lowerLatch_initd (s : State) : (s.lowerLatch).initd = s.initd := by
  unfold State.lowerLatch; split <;> simp [State.emit]
@[simp] theorem State.lowerLatch_busy (s : State) : (s.lowerLatch).busy = s.busy := by
  unfold State.lowerLatch; split <;> simp [State.emit]
@[simp] theorem State.lowerLatch_op (s : State) : (s.lowerLatch).op = s.op := by
  unfold State.lowerLatch; split <;> simp [State.emit]
@[simp] theorem State.lowerLatch_words (s : State) : (s.lowerLatch).words = s.words := by
  unfold State.lowerLatch; split <;> simp [State.emit]
@[simp] theorem State.lowerLatch_cfgdata (s : State) : (s.lowerLatch).cfgdata = s.cfgdata := by
  unfold State.lowerLatch; split <;> simp [State.emit]
@[simp] theorem State.lowerLatch_rxv (s : State) : (s.lowerLatch).rxv = s.rxv := by
  unfold State.lowerLatch; split <;> simp [State.emit]
@[simp] theorem State.lowerLatch_upc (s : State) : (s.lowerLatch).upc = s.upc + 1 := by
  unfold State.lowerLatch; split <;> simp [State.emit]
@[simp] theorem State.lowerLatch_rspValid (s : State) : (s.lowerLatch).rspValid = s.rspValid := by
  unfold State.lowerLatch; split <;> simp [State.emit]
@[simp] theorem State.lowerLatch_rspTag (s : State) : (s.lowerLatch).rspTag = s.rspTag := by
  unfold State.lowerLatch; split <;> simp [State.emit]
@[simp] theorem State.lowerLatch_rspData (s : State) : (s.lowerLatch).rspData = s.rspData := by
  unfold State.lowerLatch; split <;> simp [State.emit]
@[simp] theorem State.lowerLatch_tmr (s : State) : (s.lowerLatch).tmr = s.tmr := by
  unfold State.lowerLatch; split <;> simp [State.emit]
@[simp] theorem State.lowerLatch_trace (s : State) : (s.lowerLatch).trace = s.trace ++ [.pin .ll] := by
  unfold State.lowerLatch; split <;> simp [State.emit]
@[simp] theorem State.lowerLatch_target (s : State) : (s.lowerLatch).target = if s.lat then s.latchFall.target else s.target := by
  unfold State.lowerLatch; split <;> simp [State.emit]
@[simp] theorem State.lowerLatch_draws (s : State) : (s.lowerLatch).draws = if s.lat then s.latchFall.draws else s.draws := by
  unfold State.lowerLatch; split <;> simp [State.emit]
@[simp] theorem State.lowerLatch_ports (s : State) : (s.lowerLatch).ports = s.ports.tail := by
  unfold State.lowerLatch; split <;> simp [State.emit]

@[simp] theorem State.sampleDataIn_dout (s : State) : (s.sampleDataIn).dout = s.dout := rfl
@[simp] theorem State.sampleDataIn_clk (s : State) : (s.sampleDataIn).clk = s.clk := rfl
@[simp] theorem State.sampleDataIn_lat (s : State) : (s.sampleDataIn).lat = s.lat := rfl
@[simp] theorem State.sampleDataIn_initd (s : State) : (s.sampleDataIn).initd = s.initd := rfl
@[simp] theorem State.sampleDataIn_busy (s : State) : (s.sampleDataIn).busy = s.busy := rfl
@[simp] theorem State.sampleDataIn_op (s : State) : (s.sampleDataIn).op = s.op := rfl
@[simp] theorem State.sampleDataIn_words (s : State) : (s.sampleDataIn).words = s.words := rfl
@[simp] theorem State.sampleDataIn_cfgdata (s : State) : (s.sampleDataIn).cfgdata = s.cfgdata := rfl
@[simp] theorem State.sampleDataIn_rxv (s : State) : (s.sampleDataIn).rxv = shiftIn s.rxv s.dataInLevel := rfl
@[simp] theorem State.sampleDataIn_upc (s : State) : (s.sampleDataIn).upc = s.upc + 1 := rfl
@[simp] theorem State.sampleDataIn_rspValid (s : State) : (s.sampleDataIn).rspValid = s.rspValid := rfl
@[simp] theorem State.sampleDataIn_rspTag (s : State) : (s.sampleDataIn).rspTag = s.rspTag := rfl
@[simp] theorem State.sampleDataIn_rspData (s : State) : (s.sampleDataIn).rspData = s.rspData := rfl
@[simp] theorem State.sampleDataIn_tmr (s : State) : (s.sampleDataIn).tmr = s.tmr := rfl
@[simp] theorem State.sampleDataIn_trace (s : State) : (s.sampleDataIn).trace = s.trace ++ [.pin (.s s.dataInLevel)] := rfl
@[simp] theorem State.sampleDataIn_target (s : State) : (s.sampleDataIn).target = s.target := rfl
@[simp] theorem State.sampleDataIn_draws (s : State) : (s.sampleDataIn).draws = if s.lineFree then s.draws + 1 else s.draws := rfl
@[simp] theorem State.sampleDataIn_ports (s : State) : (s.sampleDataIn).ports = s.ports.tail := rfl

@[simp] theorem State.settleDelay_dout (s : State) : (s.settleDelay).dout = s.dout := rfl
@[simp] theorem State.settleDelay_clk (s : State) : (s.settleDelay).clk = s.clk := rfl
@[simp] theorem State.settleDelay_lat (s : State) : (s.settleDelay).lat = s.lat := rfl
@[simp] theorem State.settleDelay_initd (s : State) : (s.settleDelay).initd = s.initd := rfl
@[simp] theorem State.settleDelay_busy (s : State) : (s.settleDelay).busy = s.busy := rfl
@[simp] theorem State.settleDelay_op (s : State) : (s.settleDelay).op = s.op := rfl
@[simp] theorem State.settleDelay_words (s : State) : (s.settleDelay).words = s.words := rfl
@[simp] theorem State.settleDelay_cfgdata (s : State) : (s.settleDelay).cfgdata = s.cfgdata := rfl
@[simp] theorem State.settleDelay_rxv (s : State) : (s.settleDelay).rxv = s.rxv := rfl
@[simp] theorem State.settleDelay_upc (s : State) : (s.settleDelay).upc = s.upc + 1 := rfl
@[simp] theorem State.settleDelay_rspValid (s : State) : (s.settleDelay).rspValid = s.rspValid := rfl
@[simp] theorem State.settleDelay_rspTag (s : State) : (s.settleDelay).rspTag = s.rspTag := rfl
@[simp] theorem State.settleDelay_rspData (s : State) : (s.settleDelay).rspData = s.rspData := rfl
@[simp] theorem State.settleDelay_tmr (s : State) : (s.settleDelay).tmr = .idle := rfl
@[simp] theorem State.settleDelay_trace (s : State) : (s.settleDelay).trace = s.trace ++ [.pin .w] := rfl
@[simp] theorem State.settleDelay_target (s : State) : (s.settleDelay).target = s.target := rfl
@[simp] theorem State.settleDelay_draws (s : State) : (s.settleDelay).draws = s.draws := rfl
@[simp] theorem State.settleDelay_ports (s : State) : (s.settleDelay).ports = s.ports.tail := rfl

@[simp] theorem State.clearRxv_dout (s : State) : (s.clearRxv).dout = s.dout := rfl
@[simp] theorem State.clearRxv_clk (s : State) : (s.clearRxv).clk = s.clk := rfl
@[simp] theorem State.clearRxv_lat (s : State) : (s.clearRxv).lat = s.lat := rfl
@[simp] theorem State.clearRxv_initd (s : State) : (s.clearRxv).initd = s.initd := rfl
@[simp] theorem State.clearRxv_busy (s : State) : (s.clearRxv).busy = s.busy := rfl
@[simp] theorem State.clearRxv_op (s : State) : (s.clearRxv).op = s.op := rfl
@[simp] theorem State.clearRxv_words (s : State) : (s.clearRxv).words = s.words := rfl
@[simp] theorem State.clearRxv_cfgdata (s : State) : (s.clearRxv).cfgdata = s.cfgdata := rfl
@[simp] theorem State.clearRxv_rxv (s : State) : (s.clearRxv).rxv = 0 := rfl
@[simp] theorem State.clearRxv_upc (s : State) : (s.clearRxv).upc = s.upc := rfl
@[simp] theorem State.clearRxv_rspValid (s : State) : (s.clearRxv).rspValid = s.rspValid := rfl
@[simp] theorem State.clearRxv_rspTag (s : State) : (s.clearRxv).rspTag = s.rspTag := rfl
@[simp] theorem State.clearRxv_rspData (s : State) : (s.clearRxv).rspData = s.rspData := rfl
@[simp] theorem State.clearRxv_tmr (s : State) : (s.clearRxv).tmr = s.tmr := rfl
@[simp] theorem State.clearRxv_trace (s : State) : (s.clearRxv).trace = s.trace := rfl
@[simp] theorem State.clearRxv_target (s : State) : (s.clearRxv).target = s.target := rfl
@[simp] theorem State.clearRxv_draws (s : State) : (s.clearRxv).draws = s.draws := rfl
@[simp] theorem State.clearRxv_ports (s : State) : (s.clearRxv).ports = s.ports := rfl

@[simp] theorem State.beginRoutine_dout (s : State) : (s.beginRoutine).dout = s.dout := by
  unfold State.beginRoutine; split <;> rfl
@[simp] theorem State.beginRoutine_clk (s : State) : (s.beginRoutine).clk = s.clk := by
  unfold State.beginRoutine; split <;> rfl
@[simp] theorem State.beginRoutine_lat (s : State) : (s.beginRoutine).lat = s.lat := by
  unfold State.beginRoutine; split <;> rfl
@[simp] theorem State.beginRoutine_initd (s : State) : (s.beginRoutine).initd = s.initd := by
  unfold State.beginRoutine; split <;> rfl
@[simp] theorem State.beginRoutine_busy (s : State) : (s.beginRoutine).busy = s.busy := by
  unfold State.beginRoutine; split <;> rfl
@[simp] theorem State.beginRoutine_op (s : State) : (s.beginRoutine).op = s.op := by
  unfold State.beginRoutine; split <;> rfl
@[simp] theorem State.beginRoutine_words (s : State) : (s.beginRoutine).words = s.words := by
  unfold State.beginRoutine; split <;> rfl
@[simp] theorem State.beginRoutine_cfgdata (s : State) : (s.beginRoutine).cfgdata = s.cfgdata := by
  unfold State.beginRoutine; split <;> rfl
@[simp] theorem State.beginRoutine_upc (s : State) : (s.beginRoutine).upc = s.upc := by
  unfold State.beginRoutine; split <;> rfl
@[simp] theorem State.beginRoutine_rspValid (s : State) : (s.beginRoutine).rspValid = s.rspValid := by
  unfold State.beginRoutine; split <;> rfl
@[simp] theorem State.beginRoutine_rspTag (s : State) : (s.beginRoutine).rspTag = s.rspTag := by
  unfold State.beginRoutine; split <;> rfl
@[simp] theorem State.beginRoutine_rspData (s : State) : (s.beginRoutine).rspData = s.rspData := by
  unfold State.beginRoutine; split <;> rfl
@[simp] theorem State.beginRoutine_tmr (s : State) : (s.beginRoutine).tmr = s.tmr := by
  unfold State.beginRoutine; split <;> rfl
@[simp] theorem State.beginRoutine_trace (s : State) : (s.beginRoutine).trace = s.trace := by
  unfold State.beginRoutine; split <;> rfl
@[simp] theorem State.beginRoutine_target (s : State) : (s.beginRoutine).target = s.target := by
  unfold State.beginRoutine; split <;> rfl
@[simp] theorem State.beginRoutine_draws (s : State) : (s.beginRoutine).draws = s.draws := by
  unfold State.beginRoutine; split <;> rfl
@[simp] theorem State.beginRoutine_ports (s : State) : (s.beginRoutine).ports = s.ports := by
  unfold State.beginRoutine; split <;> rfl

@[simp] theorem State.flagsAtAcceptance_dout (s : State) : (s.flagsAtAcceptance).dout = s.dout := rfl
@[simp] theorem State.flagsAtAcceptance_clk (s : State) : (s.flagsAtAcceptance).clk = s.clk := rfl
@[simp] theorem State.flagsAtAcceptance_lat (s : State) : (s.flagsAtAcceptance).lat = s.lat := rfl
@[simp] theorem State.flagsAtAcceptance_initd (s : State) : (s.flagsAtAcceptance).initd = s.initd := rfl
@[simp] theorem State.flagsAtAcceptance_busy (s : State) : (s.flagsAtAcceptance).busy = true := rfl
@[simp] theorem State.flagsAtAcceptance_op (s : State) : (s.flagsAtAcceptance).op = s.op := rfl
@[simp] theorem State.flagsAtAcceptance_words (s : State) : (s.flagsAtAcceptance).words = s.words := rfl
@[simp] theorem State.flagsAtAcceptance_cfgdata (s : State) : (s.flagsAtAcceptance).cfgdata = s.cfgdata := rfl
@[simp] theorem State.flagsAtAcceptance_rxv (s : State) : (s.flagsAtAcceptance).rxv = s.rxv := rfl
@[simp] theorem State.flagsAtAcceptance_upc (s : State) : (s.flagsAtAcceptance).upc = s.upc := rfl
@[simp] theorem State.flagsAtAcceptance_rspValid (s : State) : (s.flagsAtAcceptance).rspValid = false := rfl
@[simp] theorem State.flagsAtAcceptance_rspTag (s : State) : (s.flagsAtAcceptance).rspTag = s.rspTag := rfl
@[simp] theorem State.flagsAtAcceptance_rspData (s : State) : (s.flagsAtAcceptance).rspData = s.rspData := rfl
@[simp] theorem State.flagsAtAcceptance_tmr (s : State) : (s.flagsAtAcceptance).tmr = s.tmr := rfl
@[simp] theorem State.flagsAtAcceptance_trace (s : State) : (s.flagsAtAcceptance).trace = s.trace := rfl
@[simp] theorem State.flagsAtAcceptance_target (s : State) : (s.flagsAtAcceptance).target = s.target := rfl
@[simp] theorem State.flagsAtAcceptance_draws (s : State) : (s.flagsAtAcceptance).draws = s.draws := rfl
@[simp] theorem State.flagsAtAcceptance_ports (s : State) : (s.flagsAtAcceptance).ports = s.ports := rfl

@[simp] theorem State.accept_dout (s : State) (op : Opcode) : (s.accept op).dout = s.dout := rfl
@[simp] theorem State.accept_clk (s : State) (op : Opcode) : (s.accept op).clk = s.clk := rfl
@[simp] theorem State.accept_lat (s : State) (op : Opcode) : (s.accept op).lat = s.lat := rfl
@[simp] theorem State.accept_initd (s : State) (op : Opcode) : (s.accept op).initd = s.initd := rfl
@[simp] theorem State.accept_busy (s : State) (op : Opcode) : (s.accept op).busy = true := rfl
@[simp] theorem State.accept_op (s : State) (op : Opcode) : (s.accept op).op = op := rfl
@[simp] theorem State.accept_words (s : State) (op : Opcode) : (s.accept op).words = s.words := rfl
@[simp] theorem State.accept_cfgdata (s : State) (op : Opcode) : (s.accept op).cfgdata = s.cfgdata := rfl
@[simp] theorem State.accept_rxv (s : State) (op : Opcode) : (s.accept op).rxv = s.rxv := rfl
@[simp] theorem State.accept_upc (s : State) (op : Opcode) : (s.accept op).upc = 0 := rfl
@[simp] theorem State.accept_rspValid (s : State) (op : Opcode) : (s.accept op).rspValid = false := rfl
@[simp] theorem State.accept_rspTag (s : State) (op : Opcode) : (s.accept op).rspTag = s.rspTag := rfl
@[simp] theorem State.accept_rspData (s : State) (op : Opcode) : (s.accept op).rspData = s.rspData := rfl
@[simp] theorem State.accept_tmr (s : State) (op : Opcode) : (s.accept op).tmr = s.tmr := rfl
@[simp] theorem State.accept_trace (s : State) (op : Opcode) : (s.accept op).trace = s.trace := rfl
@[simp] theorem State.accept_target (s : State) (op : Opcode) : (s.accept op).target = s.target := rfl
@[simp] theorem State.accept_draws (s : State) (op : Opcode) : (s.accept op).draws = s.draws := rfl
@[simp] theorem State.accept_ports (s : State) (op : Opcode) : (s.accept op).ports = s.ports.tail := rfl

@[simp] theorem State.respond_dout (s : State) (tag : Bool) : (s.respond tag).dout = s.dout := rfl
@[simp] theorem State.respond_clk (s : State) (tag : Bool) : (s.respond tag).clk = s.clk := rfl
@[simp] theorem State.respond_lat (s : State) (tag : Bool) : (s.respond tag).lat = s.lat := rfl
@[simp] theorem State.respond_initd (s : State) (tag : Bool) : (s.respond tag).initd = s.initd := rfl
@[simp] theorem State.respond_busy (s : State) (tag : Bool) : (s.respond tag).busy = s.busy := rfl
@[simp] theorem State.respond_op (s : State) (tag : Bool) : (s.respond tag).op = s.op := rfl
@[simp] theorem State.respond_words (s : State) (tag : Bool) : (s.respond tag).words = s.words := rfl
@[simp] theorem State.respond_cfgdata (s : State) (tag : Bool) : (s.respond tag).cfgdata = s.cfgdata := rfl
@[simp] theorem State.respond_rxv (s : State) (tag : Bool) : (s.respond tag).rxv = s.rxv := rfl
@[simp] theorem State.respond_upc (s : State) (tag : Bool) : (s.respond tag).upc = s.upc := rfl
@[simp] theorem State.respond_rspValid (s : State) (tag : Bool) : (s.respond tag).rspValid = true := rfl
@[simp] theorem State.respond_rspTag (s : State) (tag : Bool) : (s.respond tag).rspTag = tag := rfl
@[simp] theorem State.respond_rspData (s : State) (tag : Bool) : (s.respond tag).rspData = s.rxv := rfl
@[simp] theorem State.respond_tmr (s : State) (tag : Bool) : (s.respond tag).tmr = s.tmr := rfl
@[simp] theorem State.respond_trace (s : State) (tag : Bool) : (s.respond tag).trace = s.trace := rfl
@[simp] theorem State.respond_target (s : State) (tag : Bool) : (s.respond tag).target = s.target := rfl
@[simp] theorem State.respond_draws (s : State) (tag : Bool) : (s.respond tag).draws = s.draws := rfl
@[simp] theorem State.respond_ports (s : State) (tag : Bool) : (s.respond tag).ports = s.ports := rfl

@[simp] theorem State.resultAtCompletion_dout (s : State) : (s.resultAtCompletion).dout = s.dout := by
  unfold State.resultAtCompletion; split <;> rfl
@[simp] theorem State.resultAtCompletion_clk (s : State) : (s.resultAtCompletion).clk = s.clk := by
  unfold State.resultAtCompletion; split <;> rfl
@[simp] theorem State.resultAtCompletion_lat (s : State) : (s.resultAtCompletion).lat = s.lat := by
  unfold State.resultAtCompletion; split <;> rfl
@[simp] theorem State.resultAtCompletion_busy (s : State) : (s.resultAtCompletion).busy = s.busy := by
  unfold State.resultAtCompletion; split <;> rfl
@[simp] theorem State.resultAtCompletion_op (s : State) : (s.resultAtCompletion).op = s.op := by
  unfold State.resultAtCompletion; split <;> rfl
@[simp] theorem State.resultAtCompletion_words (s : State) : (s.resultAtCompletion).words = s.words := by
  unfold State.resultAtCompletion; split <;> rfl
@[simp] theorem State.resultAtCompletion_cfgdata (s : State) : (s.resultAtCompletion).cfgdata = s.cfgdata := by
  unfold State.resultAtCompletion; split <;> rfl
@[simp] theorem State.resultAtCompletion_rxv (s : State) : (s.resultAtCompletion).rxv = s.rxv := by
  unfold State.resultAtCompletion; split <;> rfl
@[simp] theorem State.resultAtCompletion_upc (s : State) : (s.resultAtCompletion).upc = s.upc := by
  unfold State.resultAtCompletion; split <;> rfl
@[simp] theorem State.resultAtCompletion_tmr (s : State) : (s.resultAtCompletion).tmr = s.tmr := by
  unfold State.resultAtCompletion; split <;> rfl
@[simp] theorem State.resultAtCompletion_trace (s : State) : (s.resultAtCompletion).trace = s.trace := by
  unfold State.resultAtCompletion; split <;> rfl
@[simp] theorem State.resultAtCompletion_target (s : State) : (s.resultAtCompletion).target = s.target := by
  unfold State.resultAtCompletion; split <;> rfl
@[simp] theorem State.resultAtCompletion_draws (s : State) : (s.resultAtCompletion).draws = s.draws := by
  unfold State.resultAtCompletion; split <;> rfl
@[simp] theorem State.resultAtCompletion_ports (s : State) : (s.resultAtCompletion).ports = s.ports := by
  unfold State.resultAtCompletion; split <;> rfl

@[simp] theorem State.flagsAtCompletion_dout (s : State) : (s.flagsAtCompletion).dout = s.dout := by
  simp [State.flagsAtCompletion]
@[simp] theorem State.flagsAtCompletion_clk (s : State) : (s.flagsAtCompletion).clk = s.clk := by
  simp [State.flagsAtCompletion]
@[simp] theorem State.flagsAtCompletion_lat (s : State) : (s.flagsAtCompletion).lat = s.lat := by
  simp [State.flagsAtCompletion]
@[simp] theorem State.flagsAtCompletion_busy (s : State) : (s.flagsAtCompletion).busy = false := by
  simp [State.flagsAtCompletion]
@[simp] theorem State.flagsAtCompletion_op (s : State) : (s.flagsAtCompletion).op = s.op := by
  simp [State.flagsAtCompletion]
@[simp] theorem State.flagsAtCompletion_words (s : State) : (s.flagsAtCompletion).words = s.words := by
  simp [State.flagsAtCompletion]
@[simp] theorem State.flagsAtCompletion_cfgdata (s : State) : (s.flagsAtCompletion).cfgdata = s.cfgdata := by
  simp [State.flagsAtCompletion]
@[simp] theorem State.flagsAtCompletion_rxv (s : State) : (s.flagsAtCompletion).rxv = s.rxv := by
  simp [State.flagsAtCompletion]
@[simp] theorem State.flagsAtCompletion_upc (s : State) : (s.flagsAtCompletion).upc = s.upc := by
  simp [State.flagsAtCompletion]
@[simp] theorem State.flagsAtCompletion_tmr (s : State) : (s.flagsAtCompletion).tmr = s.tmr := by
  simp [State.flagsAtCompletion]
@[simp] theorem State.flagsAtCompletion_trace (s : State) : (s.flagsAtCompletion).trace = s.trace := by
  simp [State.flagsAtCompletion]
@[simp] theorem State.flagsAtCompletion_target (s : State) : (s.flagsAtCompletion).target = s.target := by
  simp [State.flagsAtCompletion]
@[simp] theorem State.flagsAtCompletion_draws (s : State) : (s.flagsAtCompletion).draws = s.draws := by
  simp [State.flagsAtCompletion]
@[simp] theorem State.flagsAtCompletion_ports (s : State) : (s.flagsAtCompletion).ports = s.ports := by
  simp [State.flagsAtCompletion]

@[simp] theorem State.completeIfDone_dout (s : State) : (s.completeIfDone).dout = s.dout := by
  unfold State.completeIfDone; split <;> simp
@[simp] theorem State.completeIfDone_clk (s : State) : (s.completeIfDone).clk = s.clk := by
  unfold State.completeIfDone; split <;> simp
@[simp] theorem State.completeIfDone_lat (s : State) : (s.completeIfDone).lat = s.lat := by
  unfold State.completeIfDone; split <;> simp
@[simp] theorem State.completeIfDone_op (s : State) : (s.completeIfDone).op = s.op := by
  unfold State.completeIfDone; split <;> simp
@[simp] theorem State.completeIfDone_words (s : State) : (s.completeIfDone).words = s.words := by
  unfold State.completeIfDone; split <;> simp
@[simp] theorem State.completeIfDone_cfgdata (s : State) : (s.completeIfDone).cfgdata = s.cfgdata := by
  unfold State.completeIfDone; split <;> simp
@[simp] theorem State.completeIfDone_rxv (s : State) : (s.completeIfDone).rxv = s.rxv := by
  unfold State.completeIfDone; split <;> simp
@[simp] theorem State.completeIfDone_upc (s : State) : (s.completeIfDone).upc = s.upc := by
  unfold State.completeIfDone; split <;> simp
@[simp] theorem State.completeIfDone_tmr (s : State) : (s.completeIfDone).tmr = s.tmr := by
  unfold State.completeIfDone; split <;> simp
@[simp] theorem State.completeIfDone_trace (s : State) : (s.completeIfDone).trace = s.trace := by
  unfold State.completeIfDone; split <;> simp
@[simp] theorem State.completeIfDone_target (s : State) : (s.completeIfDone).target = s.target := by
  unfold State.completeIfDone; split <;> simp
@[simp] theorem State.completeIfDone_draws (s : State) : (s.completeIfDone).draws = s.draws := by
  unfold State.completeIfDone; split <;> simp
@[simp] theorem State.completeIfDone_ports (s : State) : (s.completeIfDone).ports = s.ports := by
  unfold State.completeIfDone; split <;> simp

@[simp] theorem State.forceLatchLow_dout (s : State) : (s.forceLatchLow).dout = s.dout := by
  unfold State.forceLatchLow; split <;> simp
@[simp] theorem State.forceLatchLow_clk (s : State) : (s.forceLatchLow).clk = s.clk := by
  unfold State.forceLatchLow; split <;> simp
@[simp] theorem State.forceLatchLow_lat (s : State) : (s.forceLatchLow).lat = s.lat := by
  unfold State.forceLatchLow; split <;> simp
@[simp] theorem State.forceLatchLow_initd (s : State) : (s.forceLatchLow).initd = s.initd := by
  unfold State.forceLatchLow; split <;> simp
@[simp] theorem State.forceLatchLow_busy (s : State) : (s.forceLatchLow).busy = s.busy := by
  unfold State.forceLatchLow; split <;> simp
@[simp] theorem State.forceLatchLow_op (s : State) : (s.forceLatchLow).op = s.op := by
  unfold State.forceLatchLow; split <;> simp
@[simp] theorem State.forceLatchLow_words (s : State) : (s.forceLatchLow).words = s.words := by
  unfold State.forceLatchLow; split <;> simp
@[simp] theorem State.forceLatchLow_cfgdata (s : State) : (s.forceLatchLow).cfgdata = s.cfgdata := by
  unfold State.forceLatchLow; split <;> simp
@[simp] theorem State.forceLatchLow_rxv (s : State) : (s.forceLatchLow).rxv = s.rxv := by
  unfold State.forceLatchLow; split <;> simp
@[simp] theorem State.forceLatchLow_upc (s : State) : (s.forceLatchLow).upc = s.upc := by
  unfold State.forceLatchLow; split <;> simp
@[simp] theorem State.forceLatchLow_rspValid (s : State) : (s.forceLatchLow).rspValid = s.rspValid := by
  unfold State.forceLatchLow; split <;> simp
@[simp] theorem State.forceLatchLow_rspTag (s : State) : (s.forceLatchLow).rspTag = s.rspTag := by
  unfold State.forceLatchLow; split <;> simp
@[simp] theorem State.forceLatchLow_rspData (s : State) : (s.forceLatchLow).rspData = s.rspData := by
  unfold State.forceLatchLow; split <;> simp
@[simp] theorem State.forceLatchLow_tmr (s : State) : (s.forceLatchLow).tmr = s.tmr := by
  unfold State.forceLatchLow; split <;> simp
@[simp] theorem State.forceLatchLow_trace (s : State) : (s.forceLatchLow).trace = s.trace := by
  unfold State.forceLatchLow; split <;> simp
@[simp] theorem State.forceLatchLow_target (s : State) : (s.forceLatchLow).target = if s.lat then s.latchFall.target else s.target := by
  unfold State.forceLatchLow; split <;> simp
@[simp] theorem State.forceLatchLow_draws (s : State) : (s.forceLatchLow).draws = if s.lat then s.latchFall.draws else s.draws := by
  unfold State.forceLatchLow; split <;> simp
@[simp] theorem State.forceLatchLow_ports (s : State) : (s.forceLatchLow).ports = s.ports := by
  unfold State.forceLatchLow; split <;> simp

@[simp] theorem State.forgetRegisters_dout (s : State) : (s.forgetRegisters).dout = s.dout := rfl
@[simp] theorem State.forgetRegisters_clk (s : State) : (s.forgetRegisters).clk = s.clk := rfl
@[simp] theorem State.forgetRegisters_lat (s : State) : (s.forgetRegisters).lat = s.lat := rfl
@[simp] theorem State.forgetRegisters_initd (s : State) : (s.forgetRegisters).initd = s.initd := rfl
@[simp] theorem State.forgetRegisters_busy (s : State) : (s.forgetRegisters).busy = s.busy := rfl
@[simp] theorem State.forgetRegisters_upc (s : State) : (s.forgetRegisters).upc = s.upc := rfl
@[simp] theorem State.forgetRegisters_rspValid (s : State) : (s.forgetRegisters).rspValid = s.rspValid := rfl
@[simp] theorem State.forgetRegisters_tmr (s : State) : (s.forgetRegisters).tmr = s.tmr := rfl
@[simp] theorem State.forgetRegisters_trace (s : State) : (s.forgetRegisters).trace = s.trace := rfl
@[simp] theorem State.forgetRegisters_target (s : State) : (s.forgetRegisters).target = s.target := rfl
@[simp] theorem State.forgetRegisters_draws (s : State) : (s.forgetRegisters).draws = s.draws + 3 := rfl
@[simp] theorem State.forgetRegisters_ports (s : State) : (s.forgetRegisters).ports = s.ports := rfl

@[simp] theorem State.takeReset_dout (s : State) : (s.takeReset).dout = false := by
  simp [State.takeReset]
@[simp] theorem State.takeReset_clk (s : State) : (s.takeReset).clk = false := by
  simp [State.takeReset]
@[simp] theorem State.takeReset_lat (s : State) : (s.takeReset).lat = false := by
  simp [State.takeReset]
@[simp] theorem State.takeReset_initd (s : State) : (s.takeReset).initd = false := by
  simp [State.takeReset]
@[simp] theorem State.takeReset_busy (s : State) : (s.takeReset).busy = false := by
  simp [State.takeReset]
@[simp] theorem State.takeReset_upc (s : State) : (s.takeReset).upc = 0 := by
  simp [State.takeReset]
@[simp] theorem State.takeReset_rspValid (s : State) : (s.takeReset).rspValid = false := by
  simp [State.takeReset]
@[simp] theorem State.takeReset_tmr (s : State) : (s.takeReset).tmr = .idle := by
  simp [State.takeReset]
@[simp] theorem State.takeReset_trace (s : State) : (s.takeReset).trace = s.trace ++ [.rst] := by
  simp [State.takeReset]
@[simp] theorem State.takeReset_target (s : State) : (s.takeReset).target = if s.lat then s.latchFall.target else s.target := by
  simp [State.takeReset]
@[simp] theorem State.takeReset_ports (s : State) : (s.takeReset).ports = s.ports.tail := by
  simp [State.takeReset]

end Sys2Proof.Machine
end

