-- ==== Sys2Proof/Laws/Ops.lean ====
section
/-! SUPPORT. What each shared operation can do, said once: the pin events and their lists, the target's reaction to a LATCH
fall, acceptance, completion, and a step. -/

namespace Sys2Proof.Machine

/-- Everything a command at the port can come to: it waits, is refused, or is accepted. -/
theorem present_cases (s : State) (op : Opcode) (loaded : State) :
    (s.busy = true ∧ s.present op loaded = .next s)
      ∨ (s.busy = false ∧ op ≠ 0b000#3 ∧ s.initd = false ∧ s.present op loaded = .refused .notInitialised)
      ∨ (s.busy = false ∧ (op ≠ 0b000#3 → s.initd = true) ∧ s.present op loaded = .next (loaded.accept op)) := by
  unfold State.present
  cases hb : s.busy
  · by_cases h : op ≠ 0b000#3 ∧ s.initd = false
    · exact .inr (.inl ⟨rfl, h.1, h.2, by simp [h]⟩)
    · exact .inr (.inr ⟨rfl, fun ho => by simpa [ho] using h, by simp [h]⟩)
  · exact .inl ⟨rfl, by simp⟩

/-- An accepted command: the case of `present` that the completion statements need. -/
theorem present_accepts (s loaded : State) (op : Opcode) (hb : s.busy = false)
    (hi : op ≠ 0b000#3 → s.initd = true) : s.present op loaded = .next (loaded.accept op) := by
  unfold State.present
  rw [hb]
  by_cases ho : op = 0b000#3
  · simp [ho]
  · simp [hi ho]

/-- A LATCH fall writes OUT only at signature 3, all 16 words at once. -/
theorem latchFall_out (s : State) :
    s.latchFall.target.out
      = if s.target.lcnt = 3 then pushWord s.target.buf s.target.tsr else s.target.out := by
  unfold State.latchFall
  split <;> simp_all [State.unusedSignature]

/-- A LATCH fall leaves the count as it was. -/
theorem latchFall_lcnt (s : State) : s.latchFall.target.lcnt = s.target.lcnt := by
  unfold State.latchFall
  split <;> simp [State.unusedSignature]

/-- No event writes a flag, OP, an operand or the response (40_primitives R63). -/
theorem perform_sameRegisters (s : State) (m : Micro) : s.SameRegisters (s.perform m) := by
  cases m <;> simp [State.SameRegisters, State.perform]

/-- An event is appended to the trace, as the event it is with the bit DATA_IN delivered. -/
@[simp] theorem perform_trace (s : State) (m : Micro) :
    (s.perform m).trace = s.trace ++ [.pin (m.event s.dataInLevel)] := by
  cases m <;> simp [State.perform, Micro.event]

@[simp] theorem perform_upc (s : State) (m : Micro) : (s.perform m).upc = s.upc + 1 := by
  cases m <;> simp [State.perform]

@[simp] theorem perform_ports (s : State) (m : Micro) : (s.perform m).ports = s.ports.tail := by
  cases m <;> simp [State.perform]

/-- The pins after an event are those of 00_scope R12. -/
@[simp] theorem perform_pins (s : State) (m : Micro) (b : Bool) :
    (s.perform m).pins = s.pins.after (m.event b) := by
  cases m <;> simp [State.perform, State.pins, Pins.after, Micro.event]

/-- RXV changes only at a sample. -/
theorem perform_rxv (s : State) (m : Micro) :
    (s.perform m).rxv = if m = .readDataIn then shiftIn s.rxv s.dataInLevel else s.rxv := by
  cases m <;> simp [State.perform]

/-- The settle timer is idle after an event if it was before. -/
theorem perform_tmr (s : State) (m : Micro) (h : s.tmr = .idle) : (s.perform m).tmr = .idle := by
  cases m <;> simp [State.perform, h]

/-- OUT changes only where LATCH falls with the count at 3 (46_target_device R123). -/
theorem perform_out (s : State) (m : Micro) :
    (s.perform m).target.out
      = if m = .latchLow ∧ s.lat = true ∧ s.target.lcnt = 3 then pushWord s.target.buf s.target.tsr
        else s.target.out := by
  cases m
  case latchLow => by_cases h : s.lat = true <;> simp [State.perform, h, latchFall_out]
  case clockHigh => by_cases h : s.clk = true <;> simp [State.perform, h, Target.clockRise]
  case latchHigh => by_cases h : s.lat = true <;> simp [State.perform, h]
  all_goals simp [State.perform]

@[simp] theorem performAll_nil (s : State) : s.performAll [] = s := rfl

@[simp] theorem performAll_cons (s : State) (m : Micro) (l : List Micro) :
    s.performAll (m :: l) = (s.perform m).performAll l := rfl

theorem performAll_append (s : State) (l r : List Micro) :
    s.performAll (l ++ r) = (s.performAll l).performAll r := by
  simp [State.performAll]

/-- No list of events writes a flag, OP, an operand or the response. -/
theorem performAll_sameRegisters (s : State) (l : List Micro) : s.SameRegisters (s.performAll l) := by
  induction l generalizing s with
  | nil => simp [State.SameRegisters]
  | cons m l ih =>
    have h := perform_sameRegisters s m
    have h' := ih (s.perform m)
    simp only [State.SameRegisters, performAll_cons] at *
    simp_all

@[simp] theorem performAll_ports (s : State) (l : List Micro) :
    (s.performAll l).ports = s.ports.drop l.length := by
  induction l generalizing s with
  | nil => simp
  | cons m l ih => simp [ih]

@[simp] theorem performAll_upc (s : State) (l : List Micro) :
    (s.performAll l).upc = s.upc + BitVec.ofNat 10 l.length := by
  induction l generalizing s with
  | nil => simp
  | cons m l ih =>
    rw [performAll_cons, ih, perform_upc, List.length_cons, BitVec.add_assoc, Nat.add_comm l.length 1,
      BitVec.ofNat_add]
    rfl

/-- A list of events without samples is traced as it stands. -/
theorem performAll_trace (s : State) (l : List Micro) (b : Bool) (h : Micro.readDataIn ∉ l) :
    (s.performAll l).trace = s.trace ++ l.map fun m => .pin (m.event b) := by
  induction l generalizing s with
  | nil => simp
  | cons m l ih =>
    rw [List.mem_cons, not_or] at h
    have hm : m.event s.dataInLevel = m.event b := by cases m <;> simp_all [Micro.event]
    simp [ih _ h.2, hm]

/-- A step, by what it fetched. -/
theorem step_event (s : State) (i : Instr) (h : s.fetch = .event i) :
    step s = finishStep (exec i s.beginRoutine) := by
  simp [step, h]

/-- An event instruction performs its event. -/
theorem exec_instr (m : Micro) (s : State) : exec m.instr s = .next (s.perform m) := by
  cases m <;> rfl

/-- Everything a step can do (60_exceptions R132): a reset, an event and perhaps the completion of its command, a command at
the port, nothing, or the fault of a BUSY state without an event. -/
theorem step_cases (s : State) :
    (s.port.rst = true ∧ step s = .next s.takeReset)
      ∨ (s.port.rst = false ∧ s.busy = true ∧ ∃ m, s.nextEvent = some m
          ∧ step s = .next (s.beginRoutine.perform m).completeIfDone)
      ∨ (s.port.rst = false ∧ s.busy = true ∧ s.nextEvent = none ∧ step s = .fault .noEvent)
      ∨ (s.port.rst = false ∧ s.busy = false ∧ s.port.cmdValid = true
          ∧ step s = exec (decodeHost s.port.cmdOp s.port.cmdWords s.port.cmdMask s.port.cmdGain) s)
      ∨ (s.port.rst = false ∧ s.busy = false ∧ s.port.cmdValid = false ∧ step s = .next s.tick) := by
  cases hr : s.port.rst
  · cases hb : s.busy
    · cases hv : s.port.cmdValid
      · exact .inr (.inr (.inr (.inr ⟨rfl, rfl, rfl, by simp [step, State.fetch, hr, hb, hv]⟩)))
      · exact .inr (.inr (.inr (.inl ⟨rfl, rfl, rfl, by simp [step, State.fetch, hr, hb, hv]⟩)))
    · cases hn : s.nextEvent with
      | none => exact .inr (.inr (.inl ⟨rfl, rfl, rfl, by simp [step, State.fetch, hr, hb, hn]⟩))
      | some m =>
        exact .inr (.inl ⟨rfl, rfl, m, rfl, by simp [step, State.fetch, hr, hb, hn, exec_instr, finishStep]⟩)
  · exact .inl ⟨rfl, by simp [step, State.fetch, hr]⟩

/-- Where an event is not the last, its step performs it and nothing more. -/
theorem completeIfDone_of_lt (s : State) (h : s.upc.toNat ≠ s.events.length) : s.completeIfDone = s := by
  simp [State.completeIfDone, h]

/-- 16 bits shifted in replace whatever was there: the value is the bits' own, most significant first. -/
theorem foldl_shiftIn_full (v : Word) (bs : List Bool) (h : bs.length = 16) :
    bs.foldl shiftIn v = assemble bs := by
  have key : ∀ (l : List Bool) (x y : Word), (∀ i, i + l.length < 16 → x.getLsbD i = y.getLsbD i) →
      l.foldl shiftIn x = l.foldl shiftIn y := by
    intro l
    induction l with
    | nil => exact fun x y hxy => BitVec.eq_of_getLsbD_eq fun i hi => hxy i (by simpa using hi)
    | cons b l ih =>
      intro x y hxy
      simp only [List.foldl_cons]
      apply ih
      intro i hi
      simp only [shiftIn, shl, Word.ofBit, BitVec.getLsbD_or, BitVec.getLsbD_shiftLeft]
      rcases i with _ | i
      · simp
      · have := hxy i (by simp only [List.length_cons]; omega)
        simp [this]
  exact key bs v 0 fun i hi => by omega

/-- The 16 bits of a word, most significant first, assemble to it. -/
theorem assemble_bitsDown (v : Word) : assemble (bitsDown v 15 0) = v := by
  ext i hi
  simp only [assemble, bitsDown, List.range, List.range.loop, List.map, List.foldl, shiftIn, shl, Word.ofBit]
  simp only [← BitVec.getLsbD_eq_getElem]
  interval_cases i <;> simp

end Sys2Proof.Machine
end

