-- ==== Sys2Proof/Laws/Bits.lean ====
section
/-! SUPPORT. What bits and pulses do, from CLOCK low and at one LATCH level: the closed forms from which the effect of every
frame is composed. -/

namespace Sys2Proof.Machine

/-- One bit sent from CLOCK low: one CLOCK rising edge with the bit on DATA_OUT. -/
theorem performAll_sendBit (s : State) (b : Bool) (h : s.clk = false) :
    s.performAll (sendBitEvents b)
      = { s with
          dout := b
          target := s.target.clockRise b s.lat
          trace := s.trace ++ (sendBitEvents b).map fun m => .pin (m.event false)
          upc := s.upc + 3, ports := s.ports.drop 3 } := by
  simp [← List.drop_one, sendBitEvents, pulseEvents, State.perform, State.driveData, State.raiseClock,
    State.lowerClock, State.clockRise, State.emit, h, Micro.event, BitVec.add_assoc]

/-- One pulse from CLOCK low: one CLOCK rising edge, DATA_OUT unchanged. -/
theorem performAll_pulse (s : State) (h : s.clk = false) :
    s.performAll pulseEvents
      = { s with
          target := s.target.clockRise s.dout s.lat
          trace := s.trace ++ pulseEvents.map fun m => .pin (m.event false)
          upc := s.upc + 2, ports := s.ports.drop 2 } := by
  simp [← List.drop_one, pulseEvents, State.perform, State.raiseClock,
    State.lowerClock, State.clockRise, State.emit, h, Micro.event, BitVec.add_assoc]

/-- Bits sent one after another at one LATCH level: a CLOCK rising edge each. -/
theorem performAll_sendBits (s : State) (bs : List Bool) (h : s.clk = false) :
    s.performAll (sendBitsEvents bs)
      = { s with
          dout := bs.getLast?.getD s.dout
          target := bs.foldl (fun t b => t.clockRise b s.lat) s.target
          trace := s.trace ++ (sendBitsEvents bs).map fun m => .pin (m.event false)
          upc := s.upc + BitVec.ofNat 10 (3 * bs.length), ports := s.ports.drop (3 * bs.length) } := by
  induction bs generalizing s with
  | nil => simp [sendBitsEvents]
  | cons b bs ih =>
    rw [show sendBitsEvents (b :: bs) = sendBitEvents b ++ sendBitsEvents bs from rfl, performAll_append,
      performAll_sendBit s b h, ih _ (by simpa using h)]
    simp [h, Nat.mul_add, Nat.add_comm, BitVec.ofNat_add, BitVec.add_assoc, List.getLast?_cons]

/-- Pulses one after another at one LATCH level: a CLOCK rising edge each, all with the same DATA_OUT. -/
theorem performAll_pulses (s : State) (n : Nat) (h : s.clk = false) :
    s.performAll (pulsesEvents n)
      = { s with
          target := (List.replicate n s.dout).foldl (fun t b => t.clockRise b s.lat) s.target
          trace := s.trace ++ (pulsesEvents n).map fun m => .pin (m.event false)
          upc := s.upc + BitVec.ofNat 10 (2 * n), ports := s.ports.drop (2 * n) } := by
  induction n generalizing s with
  | zero => simp [pulsesEvents]
  | succ n ih =>
    rw [show pulsesEvents (n + 1) = pulseEvents ++ pulsesEvents n from rfl, performAll_append,
      performAll_pulse s h, ih _ (by simpa using h)]
    simp [h, Nat.mul_add, Nat.add_comm, BitVec.ofNat_add, BitVec.add_assoc, List.replicate_succ]

/-- A run of CLOCK rising edges at one LATCH level, in closed form. -/
theorem foldl_clockRise (t : Target) (bs : List Bool) (lat : Bool) :
    bs.foldl (fun t b => t.clockRise b lat) t
      = { t with
          tsr := bs.foldl shiftIn t.tsr
          lcnt := if lat then t.lcnt + bs.length else t.lcnt
          rb := t.rb <<< min t.rbn.val bs.length
          rbn := ⟨t.rbn.val - bs.length, by omega⟩ } := by
  induction bs generalizing t with
  | nil => simp
  | cons b bs ih =>
    have hn : (t.clockRise b lat).rbn.val = t.rbn.val - 1 := by
      rcases Nat.eq_zero_or_pos t.rbn.val with h | h
      · simp [Target.clockRise, h]
      · simp only [Target.clockRise, h, if_true]
        rw [Fin.sub_val_of_le (by rw [Fin.le_def]; exact h)]
        rfl
    have hr : (t.clockRise b lat).rb = t.rb <<< min t.rbn.val 1 := by
      rcases Nat.eq_zero_or_pos t.rbn.val with h | h
      · simp [Target.clockRise, h]
      · simp [Target.clockRise, h, shl, Nat.min_eq_right h]
    rw [List.foldl_cons, ih]
    congr 1
    · cases lat <;> simp [Target.clockRise]; omega
    · rw [hr, hn, ← BitVec.shiftLeft_add, List.length_cons]
      congr 1
      omega
    · simp only [hn, List.length_cons, Nat.sub_sub, Nat.add_comm]

/-- An edge of LATCH upwards. -/
theorem raiseLatch_edge (s : State) (h : s.lat = false) :
    s.raiseLatch
      = { s with
          lat := true
          target := { s.target with lcnt := 0 }
          trace := s.trace ++ [.pin .lh], upc := s.upc + 1, ports := s.ports.tail } := by
  simp [State.raiseLatch, h, State.latchRise, State.emit]

/-- The reaction to a LATCH fall is the instruction the signature decodes to (46_target_device R123). -/
theorem latchFall_eq_exec (s : State) : exec (decodeSignature s.target.lcnt) s = .next s.latchFall := by
  unfold decodeSignature
  split <;> simp_all [State.latchFall] <;> rfl

/-- The reaction to a LATCH fall depends only on the target and on how many free values have been used. -/
theorem latchFall_congr (s t : State) (h : s.target = t.target) (hd : s.draws = t.draws) :
    s.latchFall.target = t.latchFall.target ∧ s.latchFall.draws = t.latchFall.draws := by
  unfold State.latchFall
  rw [h]
  split <;> simp_all [State.unusedSignature]

/-- Two states with the same fields are the same. -/
theorem State.eq_of_fields (s t : State) (hp : s.pins = t.pins) (hr : t.SameRegisters s) (h9 : s.rxv = t.rxv)
    (h10 : s.upc = t.upc) (h14 : s.tmr = t.tmr) (h15 : s.trace = t.trace) (h16 : s.target = t.target)
    (h17 : s.draws = t.draws) (h18 : s.ports = t.ports) : s = t := by
  cases s; cases t; simp_all [State.pins, State.SameRegisters]

end Sys2Proof.Machine
end

