-- ==== Sys2Proof/Laws/Config.lean ====
section
/-! SUPPORT. The constraints that 10_state R28 puts on the open configuration masks, for every value of them. -/

namespace Sys2Proof.Config

theorem offGain_off (raw : Word) : offGain raw &&& gainField = 0 := by
  unfold offGain
  rw [BitVec.and_assoc, show ~~~gainField &&& gainField = 0#16 from rfl, BitVec.and_zero]
  rfl

theorem otherThan_ne (first raw : Word) : otherThan first raw ≠ first := by
  unfold otherThan
  split
  · intro h
    have := congrArg (first ^^^ ·) h
    simp at this
  · assumption

theorem otherThan_off (first raw : Word) (h : first &&& gainField = 0) : otherThan first raw &&& gainField = 0 := by
  unfold otherThan
  split
  · have e : (first ^^^ 1#16) &&& gainField = (first &&& gainField) ^^^ (1#16 &&& gainField) := by
      ext i hi
      simp [Bool.and_xor_distrib_right]
    rw [e, h]
    rfl
  · exact offGain_off raw

/-- The thermal-error flag is one bit, not in 7:2 and not bit 13 or 12. -/
theorem thermalErrorFlag_place :
    thermalErrorFlag &&& gainField = 0 ∧ thermalErrorFlag &&& cfgPwm12bit = 0
      ∧ thermalErrorFlag &&& cfgPwmModeScramble = 0 ∧ thermalErrorFlag ≠ 0 := by
  unfold thermalErrorFlag
  cases thermalErrorPlace <;> decide

end Sys2Proof.Config
end

