-- ==== Sys2Proof/Laws/PerInstr.lean ====
section
/-! SUPPORT. Statements for all instructions, one lemma per constructor. The family `Formats`: the code of an instruction is in
the format its row of opcode_table.json has. -/

namespace Sys2Proof.Laws.Formats

/-- The format of a row of opcode_table.json (30_encoding R48). -/
def tableFormat (i : Instr) : Format :=
  match i with
  | .init => .h
  | .update _ => .h
  | .rderr => .h
  | .rdcfg => .h
  | .wrcfg _ _ => .h
  | .reserved101 => .h
  | .reserved110 => .h
  | .reserved111 => .h
  | .sendDataWord _ => .f16
  | .sendGlobalWord _ => .f16
  | .prepCfg => .f16
  | .sendCfgWord _ => .f16
  | .enErrDet => .sf
  | .prepErr => .sf
  | .readReg => .rb
  | .setData _ => .ev
  | .clockLow => .ev
  | .clockHigh => .ev
  | .latchLow => .ev
  | .latchHigh => .ev
  | .readDataIn => .ev
  | .settle => .ev
  | .pulseClock => .ev
  | .sendBit _ => .ev
  | .holdEnd => .ev
  | .tClockRise => .sig
  | .tLatchRise => .sig
  | .tDataLatch => .sig
  | .tGlobalLatch => .sig
  | .tReadCfg => .sig
  | .tEnErr => .sig
  | .tReadErr => .sig
  | .tWriteCfg => .sig
  | .tUnusedSignature _ => .sig

/-- The encoder gives the instruction a code of its row's format. -/
def Statement (i : Instr) : Prop := (encode i).format = tableFormat i

theorem init : Statement .init := rfl
theorem update (words : Words) : Statement (.update words) := rfl
theorem rderr : Statement .rderr := rfl
theorem rdcfg : Statement .rdcfg := rfl
theorem wrcfg (mask : Word) (gain : BitVec 8) : Statement (.wrcfg mask gain) := rfl
theorem reserved101 : Statement .reserved101 := rfl
theorem reserved110 : Statement .reserved110 := rfl
theorem reserved111 : Statement .reserved111 := rfl
theorem sendDataWord (w : Word) : Statement (.sendDataWord w) := rfl
theorem sendGlobalWord (w : Word) : Statement (.sendGlobalWord w) := rfl
theorem prepCfg : Statement .prepCfg := rfl
theorem sendCfgWord (v : Word) : Statement (.sendCfgWord v) := rfl
theorem enErrDet : Statement .enErrDet := rfl
theorem prepErr : Statement .prepErr := rfl
theorem readReg : Statement .readReg := rfl
theorem setData (b : Bool) : Statement (.setData b) := rfl
theorem clockLow : Statement .clockLow := rfl
theorem clockHigh : Statement .clockHigh := rfl
theorem latchLow : Statement .latchLow := rfl
theorem latchHigh : Statement .latchHigh := rfl
theorem readDataIn : Statement .readDataIn := rfl
theorem settle : Statement .settle := rfl
theorem pulseClock : Statement .pulseClock := rfl
theorem sendBit (b : Bool) : Statement (.sendBit b) := rfl
theorem holdEnd : Statement .holdEnd := rfl
theorem tClockRise : Statement .tClockRise := rfl
theorem tLatchRise : Statement .tLatchRise := rfl
theorem tDataLatch : Statement .tDataLatch := rfl
theorem tGlobalLatch : Statement .tGlobalLatch := rfl
theorem tReadCfg : Statement .tReadCfg := rfl
theorem tEnErr : Statement .tEnErr := rfl
theorem tReadErr : Statement .tReadErr := rfl
theorem tWriteCfg : Statement .tWriteCfg := rfl
theorem tUnusedSignature (n : Nat) : Statement (.tUnusedSignature n) := rfl

end Sys2Proof.Laws.Formats
end

