-- ==== Sys2Proof/Machine/Text.lean ====
section
/-! DEFINITION. The written form of commands, responses and traces (30_encoding R61). No meaning depends on it. -/

namespace Sys2Proof.Machine

/-- An event name of a trace (30_encoding R61, 00_scope R12). -/
def Event.text (e : Event) : String :=
  match e with
  | .d b => if b then "D1" else "D0"
  | .ch => "CH"
  | .cl => "CL"
  | .lh => "LH"
  | .ll => "LL"
  | .s b => if b then "S1" else "S0"
  | .w => "W"

/-- A trace entry. -/
def TraceEntry.text (t : TraceEntry) : String :=
  match t with
  | .pin e => e.text
  | .rst => "RST"

/-- A trace: names separated by spaces (30_encoding R61). -/
def traceText (l : List TraceEntry) : String := " ".intercalate (l.map TraceEntry.text)

/-- A command line: operands separated by commas, numbers in decimal (30_encoding R61). Only the five commands have a
line. -/
def commandText (i : Instr) : Option String :=
  match i with
  | .init => some "INIT"
  | .update ws => some ("UPDATE " ++ ", ".intercalate (ws.toList.map fun w => toString w.toNat))
  | .rderr => some "RDERR"
  | .rdcfg => some "RDCFG"
  | .wrcfg mask gain => some ("WRCFG " ++ toString mask.toNat ++ ", " ++ toString gain.toNat)
  | _ => none

/-- A response (30_encoding R61). -/
def Response.text (r : Response) : String :=
  match r with
  | .errorReport v => "ErrorReport(" ++ toString v.toNat ++ ")"
  | .config v => "Config(" ++ toString v.toNat ++ ")"

end Sys2Proof.Machine
end

