-- ==== Sys2Proof/Tests/Slice0.lean ====
section
/-! SUPPORT. Own tests. Expected results are the spec's own examples and vectors (95_test_vectors, named at each test), never the
model's answers. Then, for each statement with hypotheses, a state and operands that meet them together. -/

namespace Sys2Proof.Tests

open Sys2Proof.Machine Sys2Proof.Claims

/-! ## Well-formedness: each check refuses an ill-formed term -/

/-- 30_encoding R59: a gain of 64 is out of contract, 63 is legal. -/
theorem test_wf_gain : (Instr.wrcfg 0x3000 64).wellFormed = false ∧ (Instr.wrcfg 0x3000 63).wellFormed = true := by
  decide

/-- 30_encoding R59: the reserved opcodes are no commands. -/
theorem test_wf_reserved : Instr.reserved101.wellFormed = false ∧ Instr.reserved110.wellFormed = false
    ∧ Instr.reserved111.wellFormed = false := by decide

/-- 46_target_device R127: 3 is a used signature, 4 is not. -/
theorem test_wf_signature : (Instr.tUnusedSignature 3).wellFormed = false
    ∧ (Instr.tUnusedSignature 4).wellFormed = true := by decide

/-! ## Decoding: words written out from the tables of 30_encoding -/

/-- R49: `cmd_op` 000. -/
theorem test_decode_init : decode (.host 0b000#3 5 6 7) = .ok .init := by decide
/-- R49, V13: `cmd_op` 001 and the 256 bits of the operand `ws2`. -/
theorem test_decode_update : decode (.host 0b001#3
      0xBEEF40028001FFFE7FFFFF0000FFF0F00F0F5555AAAA0000FFFF123480000001 0 0)
    = .ok (.update #v[0x0001, 0x8000, 0x1234, 0xFFFF, 0x0000, 0xAAAA, 0x5555, 0x0F0F, 0xF0F0, 0x00FF, 0xFF00, 0x7FFF,
        0xFFFE, 0x8001, 0x4002, 0xBEEF]) := by decide +kernel
/-- R49: `cmd_op` 010. -/
theorem test_decode_rderr : decode (.host 0b010#3 0 0 0) = .ok .rderr := by decide
/-- R49: `cmd_op` 011. -/
theorem test_decode_rdcfg : decode (.host 0b011#3 0 0 0) = .ok .rdcfg := by decide
/-- R49, P2: `cmd_op` 100, mask 0x3000, gain 0x1F. -/
theorem test_decode_wrcfg : decode (.host 0b100#3 0 0x3000 0x1F) = .ok (.wrcfg 0x3000 31) := by decide
/-- R49: the three reserved opcodes. -/
theorem test_decode_reserved : decode (.host 0b101#3 0 0 0) = .ok .reserved101
    ∧ decode (.host 0b110#3 0 0 0) = .ok .reserved110 ∧ decode (.host 0b111#3 0 0 0) = .ok .reserved111 := by decide
/-- R50: the latch patterns of the four 16-clock frames. -/
theorem test_decode_frames : decode (.frame 0b0000000000000001#16 0x1234) = .ok (.sendDataWord 0x1234)
    ∧ decode (.frame 0b0000000000000111#16 0xBEEF) = .ok (.sendGlobalWord 0xBEEF)
    ∧ decode (.frame 0b0000000000011111#16 0) = .ok .prepCfg
    ∧ decode (.frame 0b0000011111111111#16 0x307C) = .ok (.sendCfgWord 0x307C) := by decide
/-- R103: a latch one pulse early or late is none of the frames. -/
theorem test_decode_misplaced_latch :
    decode (.frame 0b0000111111111111#16 0) = .error (.unknownFrame 0b0000111111111111#16) := by decide
/-- R51, R52: the short frames and the readback frame. -/
theorem test_decode_short : decode (.short [true, true, true, true, true, true]) = .ok .enErrDet
    ∧ decode (.short [true, true, true, true, true, true, true, true, true]) = .ok .prepErr
    ∧ decode (.readback [false, false, false, false, false, false, false, false, false, false, false, false, false,
        false, false]) = .ok .readReg := by decide
/-- R54: the codes of the events. -/
theorem test_decode_events : decode (.micro [0b000#3]) = .ok (.setData false)
    ∧ decode (.micro [0b001#3]) = .ok (.setData true) ∧ decode (.micro [0b010#3]) = .ok .clockLow
    ∧ decode (.micro [0b011#3]) = .ok .clockHigh ∧ decode (.micro [0b100#3]) = .ok .latchLow
    ∧ decode (.micro [0b101#3]) = .ok .latchHigh ∧ decode (.micro [0b110#3]) = .ok .readDataIn
    ∧ decode (.micro [0b111#3]) = .ok .settle := by decide
/-- R54: the composites. -/
theorem test_decode_composites : decode (.micro [0b011#3, 0b010#3]) = .ok .pulseClock
    ∧ decode (.micro [0b001#3, 0b011#3, 0b010#3]) = .ok (.sendBit true)
    ∧ decode (.micro [0b000#3, 0b011#3, 0b010#3]) = .ok (.sendBit false)
    ∧ decode (.micro [0b011#3, 0b100#3, 0b010#3]) = .ok .holdEnd := by decide
/-- R53: the signatures, an unused one, and the edges. -/
theorem test_decode_signatures : decode (.signature 1) = .ok .tDataLatch ∧ decode (.signature 3) = .ok .tGlobalLatch
    ∧ decode (.signature 5) = .ok .tReadCfg ∧ decode (.signature 6) = .ok .tEnErr
    ∧ decode (.signature 9) = .ok .tReadErr ∧ decode (.signature 11) = .ok .tWriteCfg
    ∧ decode (.signature 4) = .ok (.tUnusedSignature 4) ∧ decode .clockEdge = .ok .tClockRise
    ∧ decode .latchEdge = .ok .tLatchRise := by decide
/-- The table's numbering: RDCFG is 011, SEND_CFG_WORD the latch pattern 0x07FF. -/
theorem test_decode_table_words : decodeTableWord 8 3 = some .rdcfg
    ∧ decodeTableWord 16 0x07FF = some (.sendCfgWord 0) ∧ decodeTableWord 16 3 = none := by decide

/-! ## Small states -/

/-- The reset state after `INIT`: idle with INITD = 1. -/
def ready : State := { State.reset with initd := true }

/-- `ready` with the pins `(DOUT, CLK, LAT)` of V1. -/
def pinned (d c l : Bool) : State := { ready with dout := d, clk := c, lat := l }

/-- `ready` with target registers. -/
def withTarget (lcnt : Nat) (tsr cfg : Word) : State :=
  { ready with target := { Target.powerOn with lcnt := lcnt, tsr := tsr, cfg := cfg }, lat := true }

/-- Ports that present a command. -/
def commandPort (op : Opcode) (mask : Word) (gain : BitVec 8) : PortIn :=
  { PortIn.quiet with cmdValid := true, cmdOp := op, cmdMask := mask, cmdGain := gain }

/-- A command in progress at event `upc`, with these CLOCK and LATCH levels and target count. -/
def during (op : Opcode) (upc : BitVec 10) (c l : Bool) (lcnt : Nat) : State :=
  { ready with busy := true, op := op, upc := upc, clk := c, lat := l,
               target := { Target.powerOn with lcnt := lcnt } }

/-- One field of a next state. -/
def nextOf {α : Type} (f : State → α) (o : Host.Outcome State Fault Refusal) : Option α :=
  match o with
  | .next s => some (f s)
  | .fault _ => none
  | .refused _ => none

/-- The reason of a refusal. -/
def refusalOf (o : Host.Outcome State Fault Refusal) : Option Refusal :=
  match o with
  | .refused r => some r
  | .next _ => none
  | .fault _ => none

/-! ## Pin events (V1) -/

/-- V1 rows 1 to 3. -/
theorem test_set_data : nextOf State.pins (exec (.setData true) (pinned false false false)) = some ⟨true, false, false⟩
    ∧ nextOf State.pins (exec (.setData false) (pinned true false false)) = some ⟨false, false, false⟩ := by decide
/-- V1: `(1,0,0)` `CH` `(1,1,0)`. -/
theorem test_clock_high : nextOf State.pins (exec .clockHigh (pinned true false false)) = some ⟨true, true, false⟩ := by
  decide
/-- V1: `(1,1,0)` `CL` `(1,0,0)`, no reaction. -/
theorem test_clock_low : nextOf (fun t => (t.pins, t.target.tsr)) (exec .clockLow (pinned true true false))
    = some (⟨true, false, false⟩, 0) := by decide
/-- V1: `(0,0,0)` `LH` `(0,0,1)`; V11: LCNT 7 becomes 0. -/
theorem test_latch_high : nextOf (fun t => (t.pins, t.target.lcnt))
    (exec .latchHigh { withTarget 7 0 0 with lat := false }) = some (⟨false, false, true⟩, 0) := by decide
/-- V1: `(0,1,1)` `LL` `(0,1,0)`, the hold ending. -/
theorem test_latch_low : nextOf State.pins (exec .latchLow { withTarget 1 0 0 with clk := true })
    = some ⟨false, true, false⟩ := by decide
/-- V1: with DATA_IN high the event recorded is `S1` and the result 1. -/
theorem test_read_data_in : nextOf (fun t => (t.rxv, t.trace))
    (exec .readDataIn { ready with ports := [{ PortIn.quiet with dataIn := some true }] })
    = some (1, [.rst, .pin (.s true)]) := by decide
/-- R126: inside the window the line is bit 15 of RB. -/
theorem test_read_data_in_window : nextOf (fun t => (t.rxv, t.target.rbn))
    (exec .readDataIn { ready with target := { Target.powerOn with rb := 0x8000, rbn := 16 } }) = some (1, 16) := by
  decide
/-- R75: `W` changes no pin level. -/
theorem test_settle : nextOf (fun t => (t.pins, t.trace)) (exec .settle (pinned true false false))
    = some (⟨true, false, false⟩, [.rst, .pin .w]) := by decide
/-- V1: `P` from `(d,0,l)` ends `(d,0,l)` after two events. -/
theorem test_pulse_clock : nextOf (fun t => (t.pins, t.upc)) (exec .pulseClock (pinned true false true))
    = some (⟨true, false, true⟩, 2) := by decide
/-- V1: `B1` from `(0,0,0)` is `D1 CH CL` ending `(1,0,0)`. -/
theorem test_send_bit : nextOf (fun t => (t.pins, t.trace)) (exec (.sendBit true) (pinned false false false))
    = some (⟨true, false, false⟩, [.rst, .pin (.d true), .pin .ch, .pin .cl]) := by decide
/-- V1: `HOLD_END` from `(d,0,1)` is `CH LL CL` ending `(d,0,0)`. -/
theorem test_hold_end : nextOf (fun t => (t.pins, t.trace)) (exec .holdEnd (pinned true false true))
    = some (⟨true, false, false⟩, [.rst, .pin .ch, .pin .ll, .pin .cl]) := by decide

/-! ## Reactions of the target (V11) -/

/-- V11: TSR 0x8001, DATA_OUT 1, LATCH low gives 0x0003, LCNT unchanged. -/
theorem test_clock_rise : nextOf (fun t => (t.target.tsr, t.target.lcnt))
    (exec .tClockRise { withTarget 2 0x8001 0 with dout := true, lat := false }) = some (0x0003, 2) := by decide
/-- V11: LATCH high, LCNT 2 becomes 3. -/
theorem test_clock_rise_latched : nextOf (fun t => (t.target.tsr, t.target.lcnt))
    (exec .tClockRise { withTarget 2 0x0000 0 with dout := true }) = some (0x0001, 3) := by decide
/-- V11: RB 0x8000, RBN 16 become 0x0000, 15. -/
theorem test_clock_rise_readback : nextOf (fun t => (t.target.rb, t.target.rbn))
    (exec .tClockRise { ready with target := { Target.powerOn with rb := 0x8000, rbn := 16 } }) = some (0, 15) := by
  decide
/-- V11: LCNT 7 becomes 0. -/
theorem test_latch_rise : nextOf (fun t => t.target.lcnt) (exec .tLatchRise (withTarget 7 0 0)) = some 0 := by decide
/-- V11: signature 1 with TSR 0x1234. -/
theorem test_data_latch : nextOf (fun t => (t.target.buf[15], t.target.buf[0], t.target.out[15]))
    (exec .tDataLatch { withTarget 1 0x1234 0 with
      target := { Target.powerOn with tsr := 0x1234, buf := zeroWords.set 1 0x0A11 } })
    = some (0x1234, 0x0A11, 0) := by decide
/-- V11: signature 3 with TSR 0xBEEF. -/
theorem test_global_latch : nextOf (fun t => (t.target.buf[15], t.target.out[15], t.target.out[0]))
    (exec .tGlobalLatch { withTarget 3 0xBEEF 0 with
      target := { Target.powerOn with tsr := 0xBEEF, buf := zeroWords.set 1 0x0A11 } })
    = some (0xBEEF, 0xBEEF, 0x0A11) := by decide
/-- V11: signature 5 selects the register, CFG unchanged. -/
theorem test_read_cfg : nextOf (fun t => (t.target.rbn, t.target.cfg)) (exec .tReadCfg (withTarget 5 0 0x307C))
    = some (16, 0x307C) := by decide
/-- V11: signature 6 changes only ERRSTAT; OUT stays. -/
theorem test_en_err : nextOf (fun t => (t.target.out, t.target.cfg)) (exec .tEnErr (withTarget 6 0 0x307C))
    = some (zeroWords, 0x307C) := by decide
/-- V11: signature 9 with ERRSTAT 0xA5C3. -/
theorem test_read_err : nextOf (fun t => (t.target.rb, t.target.rbn))
    (exec .tReadErr { ready with target := { Target.powerOn with errstat := 0xA5C3 } }) = some (0xA5C3, 16) := by decide
/-- V11: signature 11 with TSR = CFG = 0x307C gives 0x307C whatever the flag's place. -/
theorem test_write_cfg : nextOf (fun t => t.target.cfg) (exec .tWriteCfg (withTarget 11 0x307C 0x307C))
    = some 0x307C := by
  simp only [exec, execTWriteCfg, State.writeCfg, nextOf, withTarget, withFlagOf, Config.thermalErrorFlag]
  cases Config.thermalErrorPlace <;> decide
/-- V11: an unused signature leaves OUT. -/
theorem test_unused_signature : nextOf (fun t => t.target.out)
    (exec (.tUnusedSignature 2) { ready with target := { Target.powerOn with out := zeroWords.set 3 7 } })
    = some (zeroWords.set 3 7) := by decide

/-! ## Routines (V3 to V8) -/

/-- R78: `SEND_DATA_WORD 0x8001` is `B1 [B0]x14 LH B1 LL`; V11: TSR and BUF[15] hold the word after it. -/
theorem test_send_data_word : nextOf (fun t => (t.target.tsr, t.target.buf[15], t.trace.take 6))
    (exec (.sendDataWord 0x8001) ready)
    = some (0x8001, 0x8001, [.rst, .pin (.d true), .pin .ch, .pin .cl, .pin (.d false), .pin .ch]) := by decide +kernel
/-- V3: in `SEND_DATA_WORD` the `LH` is event 45, the latched `CH` event 47, the `LL` event 49. -/
theorem test_data_word_places : (dataWordEvents 0x1234)[45]? = some .latchHigh
    ∧ (dataWordEvents 0x1234)[47]? = some .clockHigh ∧ (dataWordEvents 0x1234)[49]? = some .latchLow
    ∧ (dataWordEvents 0x1234).length = 50 := by decide +kernel
/-- R79: `SEND_GLOBAL_WORD 0x0005` commits; V4: `LH` is event 39, `LL` event 49. -/
theorem test_send_global_word : nextOf (fun t => (t.target.out[15], t.pins)) (exec (.sendGlobalWord 0x0005) ready)
      = some (0x0005, ⟨true, false, false⟩)
    ∧ (globalWordEvents 0x0005)[39]? = some .latchHigh ∧ (globalWordEvents 0x0005)[49]? = some .latchLow := by
  decide +kernel
/-- R101: the last seven events of `SEND_CFG_WORD 0x307C` are `B0 D0 CH LL CL`. -/
theorem test_send_cfg_word : (cfgWordEvents 0x307C).drop 43
      = [.setData false, .clockHigh, .clockLow, .setData false, .clockHigh, .latchLow, .clockLow]
    ∧ nextOf (fun t => t.target.tsr) (exec (.sendCfgWord 0x307C) ready) = some 0x307C := by decide +kernel
/-- V7: the 16 pulses of `PREP_CFG` leave TSR = 0xFFFF with DATA_OUT at 1; the window is open. -/
theorem test_prep_cfg : nextOf (fun t => (t.target.tsr, t.target.rbn, t.upc)) (exec .prepCfg (pinned true false false))
    = some (0xFFFF, 16, 34) := by decide +kernel
/-- R88: 14 events, signature 6. -/
theorem test_en_err_det : nextOf (fun t => (t.target.lcnt, t.upc, t.pins)) (exec .enErrDet ready)
    = some (6, 14, ⟨false, false, false⟩) := by decide +kernel
/-- R90: 20 events, signature 9, the report selected. -/
theorem test_prep_err : nextOf (fun t => (t.target.lcnt, t.upc, t.target.rb))
    (exec .prepErr { ready with target := { Target.powerOn with errstat := 0xA5C3 } }) = some (9, 20, 0xA5C3) := by
  decide +kernel
/-- V6 and V11: with RB = 0xA5C3 in the window, `READ_REG` ends with RXV = 0xA5C3 and RBN = 1. -/
theorem test_read_reg : nextOf (fun t => (t.rxv, t.target.rbn, t.upc))
    (exec .readReg { ready with target := { Target.powerOn with rb := 0xA5C3, rbn := 16 } }) = some (0xA5C3, 1, 46) := by
  decide +kernel
/-- V5: sixteen samples 1 give 0xFFFF. -/
theorem test_read_reg_stuck_line : nextOf (fun t => t.rxv)
    (exec .readReg { ready with ports := List.replicate 46 { PortIn.quiet with dataIn := some true } })
    = some 0xFFFF := by decide +kernel

/-! ## Commands (V9, V10, V13) -/

/-- V10: `INIT` in the reset state is accepted; acceptance performs no event. -/
theorem test_init : nextOf (fun t => (t.busy, t.upc, t.trace)) (exec .init State.reset) = some (true, 0, [.rst]) := by
  decide
/-- V10: `UPDATE` in the reset state is refused; accepted when initialised, with its words. -/
theorem test_update : refusalOf (exec (.update zeroWords) State.reset) = some .notInitialised
    ∧ nextOf (fun t => t.words[3]) (exec (.update (zeroWords.set 3 0xFFFF)) ready) = some 0xFFFF := by decide
/-- V13: events 0, 45, 46, 50, 159, 789, 790, 797 and 799 of `UPDATE ws2`. -/
theorem test_update_events : [0, 45, 46, 50, 159, 789, 790, 797, 799].map
      (fun e => (updateEvents #v[0x0001, 0x8000, 0x1234, 0xFFFF, 0x0000, 0xAAAA, 0x5555, 0x0F0F, 0xF0F0, 0x00FF, 0xFF00,
        0x7FFF, 0xFFFE, 0x8001, 0x4002, 0xBEEF])[e]?)
    = [some (.setData false), some .latchHigh, some (.setData true), some (.setData true), some (.setData true),
       some .latchHigh, some (.setData true), some .clockHigh, some .latchLow] := by decide +kernel
/-- V10: `RDERR` in the reset state is refused; with a response pending its acceptance clears RSP_VALID. -/
theorem test_rderr : refusalOf (exec .rderr State.reset) = some .notInitialised
    ∧ nextOf (fun t => (t.op, t.rspValid)) (exec .rderr { ready with rspValid := true }) = some (2, false) := by decide
/-- V10: `RDCFG` in the reset state is refused, and accepted when initialised. -/
theorem test_rdcfg : refusalOf (exec .rdcfg State.reset) = some .notInitialised
    ∧ nextOf (fun t => (t.op, t.busy)) (exec .rdcfg ready) = some (3, true) := by decide
/-- V9: rows 1, 3 and 7 of the CFGDATA table. -/
theorem test_wrcfg_data : nextOf (fun t => t.cfgdata) (exec (.wrcfg 0x3000 0x1F) ready) = some 0x307C
    ∧ nextOf (fun t => t.cfgdata) (exec (.wrcfg 0xFF03 0x3F) ready) = some 0xFFFF
    ∧ nextOf (fun t => t.cfgdata) (exec (.wrcfg 0x8000 0x01) ready) = some 0x8004 := by decide
/-- V10: `WRCFG 0x0000, 64` is refused; `WRCFG 0,0` in the reset state is refused as not initialised. -/
theorem test_wrcfg_refused : refusalOf (exec (.wrcfg 0 64) ready) = some .gainAbove63
    ∧ refusalOf (exec (.wrcfg 0 0) State.reset) = some .notInitialised := by decide
/-- V10: reserved opcodes are refused. -/
theorem test_reserved : refusalOf (exec .reserved101 ready) = some .reservedOpcode
    ∧ refusalOf (exec .reserved110 ready) = some .reservedOpcode
    ∧ refusalOf (exec .reserved111 ready) = some .reservedOpcode := by decide

/-! ## Steps -/

/-- V10: at `BUSY = 1` a presented command waits and the sequencer goes on. -/
theorem test_step_busy_ignores_port : nextOf (fun t => (t.op, t.upc, t.busy))
    (step { during 0b010#3 1 false true 0 with ports := [commandPort 0b000#3 0 0] }) = some (2, 2, true) := by
  decide +kernel
/-- R110: the last event of `INIT` completes it. -/
theorem test_step_completes_init : nextOf (fun t => (t.busy, t.initd))
    (step { during 0b000#3 2 false false 0 with initd := false }) = some (false, true) := by decide +kernel
/-- R110, R111: the last sample of `RDCFG` delivers the response (V7: 0x307C, its last bit 0). -/
theorem test_step_completes_rdcfg : nextOf (fun t => (t.busy, t.response))
    (step { during 0b011#3 79 false false 5 with rxv := 0x183E, ports := [{ PortIn.quiet with dataIn := some false }] })
    = some (false, some (.config 0x307C)) := by decide +kernel
/-- R21: RXV is cleared when `READ_REG` begins, at event 34 of `RDCFG`. -/
theorem test_step_clears_rxv : nextOf (fun t => t.rxv)
    (step { during 0b011#3 34 false false 5 with rxv := 0xFFFF, ports := [{ PortIn.quiet with dataIn := some true }] })
    = some 1 := by decide +kernel
/-- V12: a reset at `UPC` = 798 of `UPDATE` commits all 16 words, and the pins fall. -/
theorem test_step_reset_commits : nextOf (fun t => (t.pins, t.target.out[15], t.busy, t.initd))
    (step { during 0b001#3 798 true true 3 with
      dout := true, target := { Target.powerOn with lcnt := 3, tsr := 0xBEEF }
      ports := [{ PortIn.quiet with rst := true }] }) = some (⟨false, false, false⟩, 0xBEEF, false, false) := by
  decide +kernel
/-- V12: a reset at `UPC` = 797 decodes signature 2, and OUT stays. -/
theorem test_step_reset_keeps : nextOf (fun t => t.target.out)
    (step { during 0b001#3 797 false true 2 with ports := [{ PortIn.quiet with rst := true }] }) = some zeroWords := by
  decide +kernel
/-- R132: a command presented in the same step as reset is not accepted. -/
theorem test_step_reset_wins : nextOf (fun t => t.busy)
    (step { ready with ports := [{ commandPort 0b000#3 0 0 with rst := true }] }) = some false := by decide
/-- The very next step takes a placed word: `INIT` and `UPDATE` straight after reset. -/
theorem test_placed_word_runs : nextOf (fun t => (t.op, t.busy)) (step (State.reset.withFetchWord 8 0)) = some (0, true)
    ∧ nextOf (fun t => (t.op, t.busy)) (step (State.reset.withFetchWord 8 1)) = some (1, true) := by decide

/-! ## Counting and text -/

/-- R64: in `INIT` from reset all three events are redundant drives. -/
theorem test_redundant_init : essential (.idle false) [.d false, .cl, .ll] = [] := by decide
/-- R47: the hold ending has a signature one above its falling count (`EN_ERR_DET`: 6 and 5). -/
theorem test_hold_counts : sigs false enErrDetList = [6] ∧ fallingCounts false enErrDetList = [5] := by decide +kernel
/-- R61: command and trace text. -/
theorem test_text : commandText (.wrcfg 0x3000 31) = some "WRCFG 12288, 31"
    ∧ traceText [.rst, .pin (.d true), .pin .ch] = "RST D1 CH" := by decide +kernel

/-! ## Witnesses: for each statement with hypotheses, a case that meets them -/

/-- The decoder round trip: the well-formed instruction with the greatest legal gain. -/
theorem witness_DecodeEncodeRoundTrip : (Instr.wrcfg 0xFFFF 63).wellFormed = true := by decide
theorem witness_FramePatternsOnTheWire :
    encode (.sendCfgWord 0x307C) = .frame 0x07FF 0x307C ∧ routineEvents (.sendCfgWord 0x307C) = some (cfgWordEvents 0x307C)
      ∧ encode .prepCfg = .frame 0x001F 0 ∧ encode .enErrDet = .short (List.replicate 6 true)
      ∧ routineEvents .enErrDet = some enErrDetEvents ∧ encode .readReg = .readback (List.replicate 15 false) := by
  exact ⟨rfl, rfl, rfl, rfl, rfl, rfl⟩
theorem witness_SignatureTable :
    (Instr.prepCfg, 5, 4, 16) ∈ [(Instr.sendDataWord 0, 1, 1, 16), (.sendGlobalWord 0, 3, 3, 16), (.prepCfg, 5, 4, 16),
      (.enErrDet, 6, 5, 6), (.prepErr, 9, 8, 9), (.sendCfgWord 0, 11, 10, 16)]
      ∧ routineEvents .prepCfg = some prepCfgEvents := by
  exact ⟨by simp, rfl⟩
theorem witness_UpdateEventIndex : 799 < 800 := by decide
theorem witness_UpdateBitOrder : 15 < 16 := by decide
theorem witness_ClockHighCompletes : (pinned true false false).clk = false ∧ (pinned true true false).clk = true := by
  decide
theorem witness_LatchHighCompletes : (pinned false false false).lat = false ∧ (pinned false false true).lat = true := by
  decide
theorem witness_LatchLowCompletes : (withTarget 11 0 0).lat = true ∧ ready.lat = false := by decide
theorem witness_ReadDataInCompletes :
    (State.port { ready with ports := [{ PortIn.quiet with dataIn := some true }] }).dataIn = some true
      ∧ (ready.port.dataIn = none ∧ ready.target.rbn.val = 0)
      ∧ (0 < (State.target { ready with target := { Target.powerOn with rbn := 1 } }).rbn.val) := by decide
theorem witness_PulsesComplete : (pinned true false true).clk = false := by decide
theorem witness_HoldEndCompletes : (pinned true false true).clk = false ∧ (pinned true false true).lat = true := by
  decide
theorem witness_RedundantDrivesInvisible :
    ((Micro.setData true).event false).redundant (pinned true false false).pins = true
      ∧ nextOf State.pins (exec (Micro.instr (.setData true)) (pinned true false false)) = some ⟨true, false, false⟩
      ∧ essential (.idle false) [.cl, .ch] = essential (.idle false) [.ch, .ch] := by decide
/-- The idle starting state of `SEND_DATA_WORD`, `SEND_GLOBAL_WORD`, `SEND_CFG_WORD`, `PREP_CFG`, `EN_ERR_DET`, `PREP_ERR` and
`READ_REG`. -/
theorem witness_RoutinesComplete : ready.clk = false ∧ ready.lat = false := by decide
theorem witness_ReadRegReturnsReadback :
    (State.target { ready with target := { Target.powerOn with rbn := 16 } }).rbn = 16
      ∧ TargetDrives { ready with target := { Target.powerOn with rbn := 16 } } 46 := by
  exact ⟨rfl, fun p hp => by simp [ready, State.reset] at hp⟩
theorem witness_StepsPerformRoutines :
    routineEvents .enErrDet = some enErrDetEvents ∧ (during 0b010#3 0 false false 0).busy = true
      ∧ (during 0b010#3 0 false false 0).NoReset enErrDetEvents.length
      ∧ (during 0b010#3 0 false false 0).events.drop (during 0b010#3 0 false false 0).upc.toNat
        = enErrDetEvents ++ ([.settle] ++ prepErrEvents ++ readRegEvents) := by
  exact ⟨rfl, rfl, fun p hp => by simp [during, ready, State.reset] at hp, by decide +kernel⟩
theorem witness_InitAccepted : State.reset.busy = false := by decide
/-- The hypotheses of `UpdateAccepted`, `ReadsAccepted` and, with the greatest legal gain, `WrcfgAccepted`. -/
theorem witness_CommandsAccepted : ready.busy = false ∧ ready.initd = true ∧ (63 : BitVec 8).toNat ≤ 63 := by decide
theorem witness_RefusedBeforeInit : State.reset.busy = false ∧ State.reset.initd = false
    ∧ (63 : BitVec 8).toNat ≤ 63 := by decide
theorem witness_IllegalCommandsRefused : ready.busy = false ∧ 64 ≤ (64 : BitVec 8).toNat := by decide
theorem witness_BusyPortWaits : (during 0b010#3 1 false true 0).busy = true ∧ isCommand (.wrcfg 0 64) = true
    ∧ PortIn.quiet.rst = (commandPort 0b000#3 0 0).rst ∧ PortIn.quiet.dataIn = (commandPort 0b000#3 0 0).dataIn := by
  decide

/-- `ready` with one command at the port. -/
def presenting (op : Opcode) (mask : Word) (gain : BitVec 8) : State :=
  { ready with ports := [commandPort op mask gain] }

theorem witness_InitRuns : (presenting 0b000#3 0 0).Idle ∧ Presents (presenting 0b000#3 0 0) 0b000#3
    ∧ (presenting 0b000#3 0 0).NoReset 4 := by
  exact ⟨⟨rfl, rfl, rfl⟩, ⟨rfl, rfl⟩, by unfold State.NoReset; decide⟩
theorem witness_UpdateCommitsAllWords : (presenting 0b001#3 0 0).Idle ∧ (presenting 0b001#3 0 0).initd = true
    ∧ Presents (presenting 0b001#3 0 0) 0b001#3 ∧ (presenting 0b001#3 0 0).NoReset 801 := by
  exact ⟨⟨rfl, rfl, rfl⟩, rfl, ⟨rfl, rfl⟩, by unfold State.NoReset; decide⟩
/-- A reset right after acceptance (`n` = 0), so that `n < 798`. -/
theorem witness_TruncatedUpdate_early :
    let s : State := { ready with ports := [commandPort 0b001#3 0 0, { PortIn.quiet with rst := true }] }
    s.Idle ∧ s.initd = true ∧ Presents s 0b001#3 ∧ 0 ≤ 800 ∧ s.NoReset 1 ∧ ((s.ports.drop 1).headD .quiet).rst = true := by
  exact ⟨⟨rfl, rfl, rfl⟩, rfl, ⟨rfl, rfl⟩, by decide, by unfold State.NoReset; decide, rfl⟩
/-- A reset after 798 events, the first that commits. -/
theorem witness_TruncatedUpdate_late :
    let s : State := { ready with
      ports := commandPort 0b001#3 0 0 :: (List.replicate 798 PortIn.quiet ++ [{ PortIn.quiet with rst := true }]) }
    s.Idle ∧ s.initd = true ∧ Presents s 0b001#3 ∧ 798 ≤ 800 ∧ s.NoReset 799
      ∧ ((s.ports.drop 799).headD .quiet).rst = true := by
  exact ⟨⟨rfl, rfl, rfl⟩, rfl, ⟨rfl, rfl⟩, by decide, by unfold State.NoReset; decide +kernel, by decide +kernel⟩
theorem witness_RderrReturnsSamples : (presenting 0b010#3 0 0).Idle ∧ (presenting 0b010#3 0 0).initd = true
    ∧ Presents (presenting 0b010#3 0 0) 0b010#3 ∧ (presenting 0b010#3 0 0).NoReset 82
    ∧ TargetDrives (presenting 0b010#3 0 0) 82 := by
  exact ⟨⟨rfl, rfl, rfl⟩, rfl, ⟨rfl, rfl⟩, by unfold State.NoReset; decide, by unfold TargetDrives; decide⟩
theorem witness_RdcfgReturnsSamples : (presenting 0b011#3 0 0).Idle ∧ (presenting 0b011#3 0 0).initd = true
    ∧ Presents (presenting 0b011#3 0 0) 0b011#3 ∧ (presenting 0b011#3 0 0).NoReset 81
    ∧ TargetDrives (presenting 0b011#3 0 0) 81 := by
  exact ⟨⟨rfl, rfl, rfl⟩, rfl, ⟨rfl, rfl⟩, by unfold State.NoReset; decide, by unfold TargetDrives; decide⟩
theorem witness_WrcfgWritesConfiguration : (presenting 0b100#3 0x3000 63).Idle
    ∧ (presenting 0b100#3 0x3000 63).initd = true ∧ Presents (presenting 0b100#3 0x3000 63) 0b100#3
    ∧ (presenting 0b100#3 0x3000 63).port.cmdGain.toNat ≤ 63 ∧ (presenting 0b100#3 0x3000 63).NoReset 51 := by
  exact ⟨⟨rfl, rfl, rfl⟩, rfl, ⟨rfl, rfl⟩, by decide, by unfold State.NoReset; decide⟩
/-- `WRCFG 0x3000, 31` and, 51 steps later, `RDCFG` (P2). -/
theorem witness_ConfigRoundTrip :
    let s : State := { ready with
      ports := commandPort 0b100#3 0x3000 31 :: (List.replicate 50 PortIn.quiet ++ [commandPort 0b011#3 0 0]) }
    s.Idle ∧ s.initd = true ∧ Presents s 0b100#3 ∧ s.port.cmdGain.toNat ≤ 63 ∧ s.NoReset 132 ∧ TargetDrives s 132
      ∧ ((s.ports.drop 51).headD .quiet).cmdValid = true ∧ ((s.ports.drop 51).headD .quiet).cmdOp = 0b011#3 := by
  exact ⟨⟨rfl, rfl, rfl⟩, rfl, ⟨rfl, rfl⟩, by decide, by unfold State.NoReset; decide +kernel,
    by unfold TargetDrives; decide +kernel, by decide +kernel, by decide +kernel⟩

/-- `INIT` just accepted is a state of the invariant, and its first step answers a next state. -/
theorem during_init_inv : (during 0b000#3 0 false false 0).Inv := by
  constructor <;> decide +kernel
theorem witness_StepKeepsInvariant : (during 0b000#3 0 false false 0).Inv
    ∧ nextOf State.busy (step (during 0b000#3 0 false false 0)) = some true := by
  exact ⟨during_init_inv, by decide +kernel⟩
theorem witness_BusyCommandsComplete : (during 0b000#3 0 false false 0).Inv
    ∧ (during 0b000#3 0 false false 0).busy = true ∧ (during 0b000#3 0 false false 0).NoReset 3 := by
  exact ⟨during_init_inv, rfl, fun p hp => by simp [during, ready, State.reset] at hp⟩
/-- One step before the end of `INIT`, of `RDERR`, of `RDCFG` and of `WRCFG`. -/
theorem witness_CompletionWrites :
    [(during 0b000#3 2 false false 0), during 0b010#3 80 false false 9, during 0b011#3 79 false false 5,
      during 0b100#3 49 true false 11].all (fun s => !s.port.rst && s.busy && decide (s.upc.toNat + 1 = s.events.length)
        && (nextOf State.busy (step s)).isSome) = true := by decide +kernel
/-- The `LL` of `WRCFG`, event 48, with the count at 11. -/
theorem witness_OnlyUsedSignatures : (during 0b100#3 48 true true 11).Inv
    ∧ (during 0b100#3 48 true true 11).fetch = .event .latchLow ∧ (during 0b100#3 48 true true 11).lat = true := by
  exact ⟨by constructor <;> decide +kernel, by decide +kernel, rfl⟩
/-- CLOCK high at event 2 of `WRCFG`. -/
theorem witness_DataHeldWhileClockHigh : (during 0b100#3 2 true false 0).Inv
    ∧ (during 0b100#3 2 true false 0).port.rst = false ∧ (during 0b100#3 2 true false 0).clk = true
    ∧ nextOf State.clk (step (during 0b100#3 2 true false 0)) = some false := by
  exact ⟨by constructor <;> decide +kernel, rfl, rfl, by decide +kernel⟩
theorem witness_OutputsChangeOnlyByGlobalLatch :
    nextOf (fun t => t.target.out[15]) (step { during 0b001#3 799 false true 3 with
      target := { Target.powerOn with lcnt := 3, tsr := 0xBEEF } }) = some 0xBEEF := by decide +kernel
theorem witness_ResponsePersists :
    let s : State := { ready with rspValid := true, rspTag := true, rspData := 0x307C }
    s.Inv ∧ s.rspValid = true ∧ s.port.rst = false ∧ nextOf State.busy (step s) = some false := by
  exact ⟨by constructor <;> decide, rfl, rfl, by decide⟩
theorem witness_ResetStep : (State.port { ready with ports := [{ PortIn.quiet with rst := true }] }).rst = true
    ∧ (State.lat { withTarget 3 0 0 with ports := [{ PortIn.quiet with rst := true }] }) = true := by decide
theorem witness_StepRunsDecoded :
    (during 0b000#3 0 false false 0).port.rst = false
      ∧ (during 0b000#3 0 false false 0).events[(during 0b000#3 0 false false 0).upc.toNat]? = some (.setData false)
      ∧ (presenting 0b011#3 0 0).port.cmdValid = true
      ∧ decode (.host 0b011#3 0 0 0) = .ok .rdcfg ∧ ready.port.cmdValid = false := by decide +kernel

end Sys2Proof.Tests
end

section
/-! PROOFS. The invariant of every run: the reset state meets it and every step keeps it. -/

namespace Sys2Proof.Machine

/-! ## Lengths of the event lists -/

@[simp] theorem length_bitsDown (v : Word) (hi lo : Nat) : (bitsDown v hi lo).length = hi + 1 - lo := by
  simp [bitsDown]

@[simp] theorem length_sendBitsEvents (bs : List Bool) : (sendBitsEvents bs).length = 3 * bs.length := by
  simp [sendBitsEvents, sendBitEvents, pulseEvents, Nat.mul_comm]

@[simp] theorem length_pulsesEvents (n : Nat) : (pulsesEvents n).length = 2 * n := by
  simp [pulsesEvents, pulseEvents, Nat.mul_comm]

@[simp] theorem length_wordEvents (ws : Words) (k : Fin 16) : (wordEvents ws k).length = 50 := by
  unfold wordEvents
  split <;> simp [dataWordEvents, globalWordEvents, sendBitEvents, pulseEvents]

@[simp] theorem length_updateEvents (ws : Words) : (updateEvents ws).length = 800 := by
  simp [updateEvents, List.length_flatMap]

@[simp] theorem length_cfgWordEvents (v : Word) : (cfgWordEvents v).length = 50 := by
  simp [cfgWordEvents, holdEndEvents]

@[simp] theorem length_rderrEvents : rderrEvents.length = 81 := by decide +kernel

@[simp] theorem length_rdcfgEvents : rdcfgEvents.length = 80 := by decide +kernel

/-- No event list is longer than that of `UPDATE`, so that UPC does not wrap around. -/
theorem length_eventList_le (op : Opcode) (ws : Words) (v : Word) : (eventList op ws v).length ≤ 800 := by
  unfold eventList
  split <;> simp [initEvents]

/-- Each of the five commands has an event. -/
theorem length_eventList_pos (op : Opcode) (ws : Words) (v : Word) (h : op.toNat ≤ 4) :
    0 < (eventList op ws v).length := by
  unfold eventList
  split
  case h_6 => exfalso; revert op; decide
  all_goals simp [initEvents]

/-! ## Where an event list leaves CLOCK and LATCH -/

/-- From CLOCK low and LATCH at `a`, the events end with CLOCK low and LATCH at `b`. -/
def Moves (a b : Bool) (l : List Micro) : Prop :=
  ∀ p : Pins, p.clk = false → p.lat = a →
    (p.afterAll (l.map (Micro.event false))).clk = false ∧ (p.afterAll (l.map (Micro.event false))).lat = b

theorem Moves.nil (a : Bool) : Moves a a [] := fun _ hc hl => ⟨hc, hl⟩

theorem Moves.append {a b c : Bool} {l r : List Micro} (hl : Moves a b l) (hr : Moves b c r) :
    Moves a c (l ++ r) := by
  intro p hclk hlat
  obtain ⟨hclk', hlat'⟩ := hl p hclk hlat
  simpa [Pins.afterAll] using hr _ hclk' hlat'

/-- Parts that each return to the level they began at do so together. -/
theorem Moves.flatten {a : Bool} {ls : List (List Micro)} (h : ∀ l ∈ ls, Moves a a l) : Moves a a ls.flatten := by
  induction ls with
  | nil => exact .nil a
  | cons l ls ih =>
    rw [List.forall_mem_cons] at h
    exact h.1.append (ih h.2)

theorem Moves.replicate {a : Bool} {l : List Micro} (h : Moves a a l) (n : Nat) :
    Moves a a (List.replicate n l).flatten :=
  .flatten fun _ hr => List.eq_of_mem_replicate hr ▸ h

theorem Moves.flatMap {α : Type} {a : Bool} {f : α → List Micro} (h : ∀ x, Moves a a (f x)) (xs : List α) :
    Moves a a (xs.flatMap f) :=
  .flatten (List.forall_mem_map.2 fun x _ => h x)

theorem moves_sendBit (a b : Bool) : Moves a a (sendBitEvents b) := fun _ _ hl => ⟨rfl, hl⟩

theorem moves_pulse (a : Bool) : Moves a a pulseEvents := fun _ _ hl => ⟨rfl, hl⟩

theorem moves_latchHigh (a : Bool) : Moves a true [.latchHigh] := fun _ hc _ => ⟨hc, rfl⟩

theorem moves_latchLow (a : Bool) : Moves a false [.latchLow] := fun _ hc _ => ⟨hc, rfl⟩

theorem moves_setData (a b : Bool) : Moves a a [.setData b] := fun _ hc hl => ⟨hc, hl⟩

theorem moves_readDataIn (a : Bool) : Moves a a [.readDataIn] := fun _ hc hl => ⟨hc, hl⟩

theorem moves_settle (a : Bool) : Moves a a [.settle] := fun _ hc hl => ⟨hc, hl⟩

theorem moves_holdEnd (a : Bool) : Moves a false holdEndEvents := fun _ _ _ => ⟨rfl, rfl⟩

theorem moves_sendBits (a : Bool) (bs : List Bool) : Moves a a (sendBitsEvents bs) :=
  .flatMap (moves_sendBit a) bs

theorem moves_pulses (a : Bool) (n : Nat) : Moves a a (pulsesEvents n) := (moves_pulse a).replicate n

theorem moves_dataWord (w : Word) : Moves false false (dataWordEvents w) :=
  (((moves_sendBits _ _).append (moves_latchHigh _)).append (moves_sendBit _ _)).append (moves_latchLow _)

theorem moves_globalWord (w : Word) : Moves false false (globalWordEvents w) :=
  (((moves_sendBits _ _).append (moves_latchHigh _)).append (moves_sendBits _ _)).append (moves_latchLow _)

theorem moves_cfgWord (v : Word) : Moves false false (cfgWordEvents v) :=
  ((((moves_sendBits _ _).append (moves_latchHigh _)).append (moves_sendBits _ _)).append
    (moves_setData _ _)).append (moves_holdEnd _)

theorem moves_enErrDet : Moves false false enErrDetEvents :=
  ((moves_latchHigh _).append (moves_pulses _ _)).append (moves_holdEnd _)

theorem moves_prepErr : Moves false false prepErrEvents :=
  ((moves_latchHigh _).append (moves_pulses _ _)).append (moves_holdEnd _)

theorem moves_prepCfg : Moves false false prepCfgEvents :=
  (((moves_pulses _ _).append (moves_latchHigh _)).append (moves_pulses _ _)).append (moves_holdEnd _)

theorem moves_readReg : Moves false false readRegEvents :=
  (((moves_readDataIn _).append (moves_pulse _)).replicate 15).append (moves_readDataIn _)

theorem moves_update (ws : Words) : Moves false false (updateEvents ws) := by
  refine .flatMap (fun k => ?_) _
  unfold wordEvents
  split
  · exact moves_dataWord _
  · exact moves_globalWord _

/-- Every command returns CLOCK and LATCH to low (10_state R26). -/
theorem moves_eventList (op : Opcode) (ws : Words) (v : Word) : Moves false false (eventList op ws v) := by
  unfold eventList
  split
  · exact fun _ _ _ => ⟨rfl, rfl⟩
  · exact moves_update ws
  · exact ((moves_enErrDet.append (moves_settle _)).append moves_prepErr).append moves_readReg
  · exact moves_prepCfg.append moves_readReg
  · exact moves_cfgWord v
  · exact .nil _

/-! ## The count over events follows the machine -/

/-- Counting an event moves the pins as the event does, redundant or not. -/
@[simp] theorem Scan.feed_pins (k : Scan) (e : Event) : (k.feed e).pins = k.pins.after e := by
  obtain ⟨⟨d, c, l⟩, r, f, is, es⟩ := k
  cases e <;> cases c <;> cases l <;> rfl

theorem scan_append_singleton (p : Pins) (l : List Event) (e : Event) :
    scan p (l ++ [e]) = (scan p l).feed e := by
  simp [scan]

theorem scan_pins (p : Pins) (l : List Event) : (scan p l).pins = p.afterAll l := by
  induction l using List.reverseRecOn with
  | nil => rfl
  | append_singleton l e ih => simp [scan_append_singleton, ih, Pins.afterAll]

/-- CLOCK, LATCH and, in an open latched interval, the target's count are those counted in `k`. -/
structure State.Tracks (s : State) (k : Scan) : Prop where
  clk : s.clk = k.pins.clk
  lat : s.lat = k.pins.lat
  count : s.lat = true → s.target.lcnt = k.rising

/-- Performing an event is counted as the event is (40_primitives R64, 46_target_device R121, R122). -/
theorem State.Tracks.perform {s : State} {k : Scan} (h : s.Tracks k) (m : Micro) :
    (s.perform m).Tracks (k.feed (m.event false)) := by
  obtain ⟨hclk, hlat, hcount⟩ := h
  constructor
  case clk => cases m <;> simp [State.perform, Micro.event, Pins.after, hclk]
  case lat => cases m <;> simp [State.perform, Micro.event, Pins.after, hlat]
  case count =>
    cases m
    case clockHigh =>
      by_cases hc : s.clk = true <;>
        simp_all [State.perform, Micro.event, Scan.feed, Target.clockRise]
    case latchHigh =>
      by_cases hl : s.lat = true <;> simp_all [State.perform, Micro.event, Scan.feed]
    case clockLow =>
      by_cases hc : s.clk = true <;> simp_all [State.perform, Micro.event, Scan.feed]
    case latchLow => simp [State.perform]
    all_goals simpa [State.perform, Micro.event, Scan.feed] using hcount

/-- In a state of the invariant a command in progress has been counted up to UPC. -/
theorem State.Inv.tracks {s : State} (h : s.Inv) (hb : s.busy = true) : s.Tracks s.progress :=
  ⟨(h.pins hb).1, (h.pins hb).2, h.count hb⟩

@[simp] theorem perform_events (s : State) (m : Micro) : (s.perform m).events = s.events := by
  obtain ⟨-, -, hop, hwords, hcfg, -⟩ := perform_sameRegisters s m
  simp only [State.events, hop, hwords, hcfg]

/-- UPC counts the events performed. -/
theorem perform_upc_toNat {s : State} (m : Micro) (h : s.upc.toNat < s.events.length) :
    (s.perform m).upc.toNat = s.upc.toNat + 1 := by
  have hle : s.events.length ≤ 800 := length_eventList_le _ _ _
  rw [perform_upc, BitVec.toNat_add, show (1 : BitVec 10).toNat = 1 from rfl]
  omega

/-- Performing the event at UPC counts that event. -/
theorem perform_progress {s : State} {m : Micro} (h : s.upc.toNat < s.events.length) (hm : s.nextEvent = some m) :
    (s.perform m).progress = s.progress.feed (m.event false) := by
  rw [State.progress, perform_events, perform_upc_toNat m h, List.take_add_one,
    show s.events[s.upc.toNat]? = some m from hm, Option.toList_some, List.map_append, List.map_singleton,
    scan_append_singleton, State.progress]

/-- Once all events of a command have been counted, CLOCK and LATCH are low. -/
theorem progress_pins_of_done {s : State} (h : s.upc.toNat = s.events.length) :
    s.progress.pins.clk = false ∧ s.progress.pins.lat = false := by
  rw [State.progress, h, List.take_length, scan_pins]
  exact moves_eventList _ _ _ _ rfl rfl

/-! ## The invariant -/

/-- While no command is in progress the invariant speaks of CLOCK, LATCH and the settle timer alone. -/
theorem State.Inv.of_idle {s : State} (hi : s.Idle) (ht : s.tmr = .idle) : s.Inv := by
  obtain ⟨hb, hclk, hlat⟩ := hi
  constructor <;> simp_all

theorem takeReset_inv (s : State) : s.takeReset.Inv := .of_idle ⟨by simp, by simp, by simp⟩ (by simp)

theorem State.Inv.tick {s : State} (h : s.Inv) (hb : s.busy = false) : s.tick.Inv :=
  .of_idle ⟨hb, h.idle hb⟩ h.timer

/-- Acceptance of one of the five commands while CLOCK and LATCH are low (45_init_and_command_port R117). -/
theorem accept_inv {s : State} {op : Opcode} (hpins : s.clk = false ∧ s.lat = false) (ht : s.tmr = .idle)
    (hop : op.toNat ≤ 4) (hi : op ≠ 0b000#3 → s.initd = true) : (s.accept op).Inv where
  idle := by simp
  inList _ := by simpa [State.events] using length_eventList_pos op s.words s.cfgdata hop
  pins _ := by simpa [State.progress, scan, Scan.start, Pins.idle] using hpins
  count _ hl := by simp [hpins] at hl
  noResponse _ := by simp
  initd _ := by simpa using hi
  timer := by simpa using ht

/-- A command presented while idle, whose operands were loaded without touching pins, INITD or timer. -/
theorem present_inv {s loaded t : State} {op : Opcode} (hs : s.Inv) (hb : s.busy = false)
    (h : s.present op loaded = .next t)
    (hl : loaded.pins = s.pins ∧ loaded.initd = s.initd ∧ loaded.tmr = s.tmr) (hop : op.toNat ≤ 4) : t.Inv := by
  obtain ⟨hpins, hinitd, htmr⟩ := hl
  simp only [State.pins, Pins.mk.injEq] at hpins
  obtain ⟨-, hclk, hlat⟩ := hpins
  obtain ⟨hb', -⟩ | ⟨-, -, -, hr⟩ | ⟨-, hi, ha⟩ := present_cases s op loaded
  · simp [hb] at hb'
  · simp [hr] at h
  · obtain rfl : loaded.accept op = t := by simpa [ha] using h
    exact accept_inv (by simpa [hclk, hlat] using hs.idle hb) (by simpa [htmr] using hs.timer) hop
      (by simpa [hinitd] using hi)

/-- Whatever the command port presents while idle, a next state is of the invariant. -/
theorem command_inv {s t : State} (p : PortIn) (hs : s.Inv) (hb : s.busy = false)
    (h : exec (decodeHost p.cmdOp p.cmdWords p.cmdMask p.cmdGain) s = .next t) : t.Inv := by
  unfold decodeHost at h
  split at h
  · exact present_inv hs hb h ⟨rfl, rfl, rfl⟩ (by decide)
  · exact present_inv hs hb h ⟨rfl, rfl, rfl⟩ (by decide)
  · exact present_inv hs hb h ⟨rfl, rfl, rfl⟩ (by decide)
  · exact present_inv hs hb h ⟨rfl, rfl, rfl⟩ (by decide)
  · simp only [exec, execWrcfg] at h
    split at h
    · cases h
    · exact present_inv hs hb h ⟨rfl, rfl, rfl⟩ (by decide)
  · cases h
  · cases h
  · cases h

/-- Clearing RXV touches nothing the invariant speaks of. -/
theorem State.Inv.beginRoutine {s : State} (h : s.Inv) : s.beginRoutine.Inv := by
  unfold State.beginRoutine
  split
  · exact ⟨h.idle, h.inList, h.pins, h.count, h.noResponse, h.initd, h.timer⟩
  · exact h

@[simp] theorem beginRoutine_nextEvent (s : State) : s.beginRoutine.nextEvent = s.nextEvent := by
  simp [State.nextEvent, State.events]

/-- An event and the completion that may follow it: before the last event the count goes on, and after it the pins are
idle. -/
theorem State.Inv.perform {s : State} (h : s.Inv) (hb : s.busy = true) {m : Micro} (hm : s.nextEvent = some m) :
    (s.perform m).completeIfDone.Inv := by
  have hlt := h.inList hb
  have hupc := perform_upc_toNat m hlt
  have htmr := perform_tmr s m h.timer
  have ht : (s.perform m).Tracks (s.perform m).progress :=
    perform_progress hlt hm ▸ (h.tracks hb).perform m
  obtain ⟨hinitd, hbusy, hop, -, -, hrsp, -⟩ := perform_sameRegisters s m
  by_cases hdone : (s.perform m).upc.toNat = (s.perform m).events.length
  · obtain ⟨hclk, hlat⟩ := progress_pins_of_done hdone
    rw [State.completeIfDone, if_pos hdone]
    exact .of_idle ⟨by simp, by simp [ht.clk, hclk], by simp [ht.lat, hlat]⟩ (by simpa using htmr)
  · rw [completeIfDone_of_lt _ hdone]
    exact {
      idle := by simp [hbusy, hb]
      inList := fun _ => by rw [perform_events] at hdone ⊢; omega
      pins := fun _ => ⟨ht.clk, ht.lat⟩
      count := fun _ => ht.count
      noResponse := fun _ => hrsp.trans (h.noResponse hb)
      initd := fun _ ho => hinitd.trans (h.initd hb (hop ▸ ho))
      timer := htmr }

/-- Every step keeps the invariant, whichever of the moves of 60_exceptions R132 it is. -/
theorem step_inv {s t : State} (hs : s.Inv) (h : step s = .next t) : t.Inv := by
  obtain ⟨-, hr⟩ | ⟨-, hb, m, hm, he⟩ | ⟨-, -, -, hf⟩ | ⟨-, hb, -, hc⟩ | ⟨-, hb, -, hi⟩ := step_cases s
  · obtain rfl : s.takeReset = t := by simpa [hr] using h
    exact takeReset_inv s
  · obtain rfl : (s.beginRoutine.perform m).completeIfDone = t := by simpa [he] using h
    exact hs.beginRoutine.perform (by simpa using hb) (by simpa using hm)
  · simp [hf] at h
  · exact command_inv s.port hs hb (hc ▸ h)
  · obtain rfl : s.tick = t := by simpa [hi] using h
    exact hs.tick hb

end Sys2Proof.Machine

open Sys2Proof.Machine

/-- Settles O51, by the moves a step can make: reset, event, command and nothing. -/
theorem stepKeepsInvariant : Obligations.StepKeepsInvariant := fun _ _ => step_inv

/-- Settles O50: the reset state is idle, and so is its timer. -/
theorem resetEstablishesInvariant : Obligations.ResetEstablishesInvariant := .of_idle ⟨rfl, rfl, rfl⟩ rfl

/-- Settles O58: each register 10_state R34 names is read off the reset state. -/
theorem resetState : Obligations.ResetState := ⟨rfl, rfl, rfl, rfl, rfl, rfl, rfl⟩
end

section
/-! PROOFS. Encoding and decoding: words in `cmd_words`, the decoder on the encoder's codes, what the port and the wire
accept, and the commands that are refused. -/

namespace Sys2Proof

/-! ## Words packed into `cmd_words` -/

/-- Word `k` of `cmd_words`, bit by bit (30_encoding R49). -/
@[simp] theorem getLsbD_unpackWords (v : BitVec 256) (k i : Nat) (hk : k < 16) (hi : i < 16) :
    (unpackWords v)[k].getLsbD i = v.getLsbD (16 * k + i) := by
  simp [unpackWords, hi]

/-- Packing a list of at most 16 words puts word `k` at bits `16k+15:16k`. -/
theorem getLsbD_foldr_pack (l : List Word) (k i : Nat) (hk : k < l.length) (hk16 : k < 16) (hi : i < 16) :
    (l.foldr (fun (w : Word) (acc : BitVec 256) => (acc <<< 16) ||| w.setWidth 256) 0#256).getLsbD (16 * k + i)
      = l[k].getLsbD i := by
  induction l generalizing k with
  | nil => simp at hk
  | cons w l ih =>
    rw [List.foldr_cons, BitVec.getLsbD_or, BitVec.getLsbD_shiftLeft, BitVec.getLsbD_setWidth]
    cases k with
    | zero => simp [hi, show i < 256 by omega]
    | succ k =>
      have hword : w.getLsbD (16 * (k + 1) + i) = false := BitVec.getLsbD_of_ge _ _ (by omega)
      rw [hword, show 16 * (k + 1) + i - 16 = 16 * k + i by omega, ih k (by simpa using hk) (by omega)]
      simp [show 16 * (k + 1) + i < 256 by omega, show 16 ≤ 16 * (k + 1) + i by omega]

@[simp] theorem unpackWords_packWords (ws : Words) : unpackWords (packWords ws) = ws := by
  ext k hk i hi
  rw [← BitVec.getLsbD_eq_getElem, ← BitVec.getLsbD_eq_getElem, getLsbD_unpackWords _ _ _ hk hi, packWords,
    getLsbD_foldr_pack _ _ _ (by simpa using hk) hk hi, Vector.getElem_toList]

/-! ## The decoder on the encoder's codes -/

/-- A signature outside the table decodes to the reaction to an unused one (30_encoding R53). -/
theorem decodeSignature_unused {n : Nat} (h : n ∉ usedSignatures) : decodeSignature n = .tUnusedSignature n := by
  unfold decodeSignature
  split <;> simp_all [usedSignatures]

/-- The decoder undoes the encoder, except on an "unused" signature that is used. -/
theorem decode_encode (i : Instr) (h : ∀ n, i = .tUnusedSignature n → n ∉ usedSignatures) :
    decode (encode i) = .ok i := by
  cases i
  case update ws => exact congrArg (fun v => Except.ok (Instr.update v)) (unpackWords_packWords ws)
  case setData b => cases b <;> rfl
  case sendBit b => cases b <;> rfl
  case tUnusedSignature n => exact congrArg Except.ok (decodeSignature_unused (h n rfl))
  all_goals rfl

/-- An unused signature that is well-formed is none of the six. -/
theorem not_mem_usedSignatures_of_wellFormed {i : Instr} (h : i.wellFormed = true) (n : Nat)
    (hi : i = .tUnusedSignature n) : n ∉ usedSignatures := by
  subst hi
  exact of_decide_eq_true h

/-! ## What the wire formats accept -/

theorem decodeFrame_ok_iff (latch payload : Word) :
    (∃ i, decodeFrame latch payload = .ok i)
      ↔ latch = 0x0001 ∨ latch = 0x0007 ∨ latch = 0x001F ∨ latch = 0x07FF := by
  unfold decodeFrame
  split_ifs <;> simp_all

theorem decodeShort_ok_iff (l : List Bool) :
    (∃ i, decodeShort l = .ok i) ↔ l = List.replicate 6 true ∨ l = List.replicate 9 true := by
  unfold decodeShort
  split_ifs <;> simp_all

theorem decodeReadback_ok_iff (l : List Bool) :
    (∃ i, decodeReadback l = .ok i) ↔ l = List.replicate 15 false := by
  unfold decodeReadback
  split_ifs <;> simp_all

end Sys2Proof

open Sys2Proof Sys2Proof.Machine

/-- Settles O1, by cases on the instruction: only `UPDATE`, whose words go through `cmd_words`, and an unused signature
need more than reading off the tables. -/
theorem decodeEncodeRoundTrip : Obligations.DecodeEncodeRoundTrip := by
  refine ⟨fun i h => decode_encode i (not_mem_usedSignatures_of_wellFormed h), fun mask gain => rfl, fun i h => ?_⟩
  refine decode_encode i fun n hn => ?_
  subst hn
  simp at h

/-- Settles O2: each code is evaluated; only the sixteen words of `UPDATE` need computing. -/
theorem specWordsDecode : Obligations.SpecWordsDecode := by
  refine ⟨rfl, ?update, rfl, rfl, rfl, rfl, rfl, rfl, rfl⟩
  case update => decide +kernel

/-- Settles O3: the opcode selects the row, and the words of `UPDATE` are those of `getLsbD_unpackWords`. -/
theorem hostPortDecodes : Obligations.HostPortDecodes := by
  intro words mask gain
  exact ⟨rfl, ⟨unpackWords words, rfl, fun k hk i hi => getLsbD_unpackWords words k i hk hi⟩,
    rfl, rfl, rfl, rfl, rfl, rfl⟩

/-- Settles O4: a list that is all one level is a `List.replicate`, and these are what the decoder compares with. -/
theorem wireFormatsDecodeExactly : Obligations.WireFormatsDecodeExactly := by
  refine ⟨decodeFrame_ok_iff, fun l => (decodeShort_ok_iff l).trans ?_, fun l => (decodeReadback_ok_iff l).trans ?_⟩
  · rw [List.eq_replicate_iff, List.eq_replicate_iff]
    tauto
  · rw [List.eq_replicate_iff, and_comm]

/-- Settles O7: one code per event, `D0` and `D1` apart. -/
theorem microCodesDecode : Obligations.MicroCodesDecode := by
  intro m
  cases m
  case setData b => cases b <;> rfl
  all_goals rfl

/-- Settles O41: the reserved opcodes are refused without looking at the state, and a gain above 63 is looked at before
INITD. -/
theorem illegalCommandsRefused : Obligations.IllegalCommandsRefused := by
  intro s
  refine ⟨rfl, rfl, rfl, fun mask gain hb hg => ?_⟩
  exact if_pos ⟨hb, Nat.lt_of_lt_of_le (by decide) hg⟩
end

section
/-! PROOFS. What is counted over the frames: the closed form of the count over each frame, and from it the patterns on the
wire, the signature table, the counts of the fixed lists, and that no other signature occurs. -/

namespace Sys2Proof.Machine

open Sys2Proof.Claims

/-! ## The count over parts of a frame -/

/-- The count goes on over a list of events, with `b` at every sample. -/
def Scan.feedAll (k : Scan) (b : Bool) (l : List Micro) : Scan := (asEvents b l).foldl Scan.feed k

@[simp] theorem Scan.feedAll_nil (k : Scan) (b : Bool) : k.feedAll b [] = k := rfl

@[simp] theorem Scan.feedAll_append (k : Scan) (b : Bool) (l r : List Micro) :
    k.feedAll b (l ++ r) = (k.feedAll b l).feedAll b r := by
  simp [Scan.feedAll, asEvents]

/-- `[S P]xn`, the samples of a readback that a pulse follows (42_error_report_read R95). -/
def readRounds (n : Nat) : List Micro := (List.replicate n (.readDataIn :: pulseEvents)).flatten

/-- `READ_REG` is fifteen rounds and a last sample. -/
theorem readRegEvents_eq : readRegEvents = readRounds 15 ++ [.readDataIn] := rfl

section Parts

variable (dout lat : Bool) (rising falling : Nat) (is : List (Nat × Nat)) (es : List (Bool × Bool)) (b : Bool)

/-- One bit from CLOCK low: a rising edge that shows it, and a falling edge. -/
@[simp] theorem feedAll_sendBit (c : Bool) :
    Scan.feedAll ⟨⟨dout, false, lat⟩, rising, falling, is, es⟩ b (sendBitEvents c)
      = ⟨⟨c, false, lat⟩, if lat then rising + 1 else rising, if lat then falling + 1 else falling, is,
          es ++ [(c, lat)]⟩ := rfl

/-- One pulse from CLOCK low: a rising edge that shows the old level of DATA_OUT, and a falling edge. -/
@[simp] theorem feedAll_pulse :
    Scan.feedAll ⟨⟨dout, false, lat⟩, rising, falling, is, es⟩ b pulseEvents
      = ⟨⟨dout, false, lat⟩, if lat then rising + 1 else rising, if lat then falling + 1 else falling, is,
          es ++ [(dout, lat)]⟩ := rfl

@[simp] theorem feedAll_latchHigh (l : List Micro) :
    Scan.feedAll ⟨⟨dout, false, false⟩, rising, falling, is, es⟩ b (.latchHigh :: l)
      = Scan.feedAll ⟨⟨dout, false, true⟩, 0, 0, is, es⟩ b l := rfl

@[simp] theorem feedAll_latchLow (l : List Micro) :
    Scan.feedAll ⟨⟨dout, false, true⟩, rising, falling, is, es⟩ b (.latchLow :: l)
      = Scan.feedAll ⟨⟨dout, false, false⟩, rising, falling, is ++ [(rising, falling)], es⟩ b l := rfl

@[simp] theorem feedAll_setData (c : Bool) (l : List Micro) :
    Scan.feedAll ⟨⟨dout, false, lat⟩, rising, falling, is, es⟩ b (.setData c :: l)
      = Scan.feedAll ⟨⟨c, false, lat⟩, rising, falling, is, es⟩ b l := rfl

@[simp] theorem feedAll_settle (k : Scan) (l : List Micro) : k.feedAll b (.settle :: l) = k.feedAll b l := rfl

@[simp] theorem feedAll_readDataIn (k : Scan) (l : List Micro) : k.feedAll b (.readDataIn :: l) = k.feedAll b l := rfl

/-- The end of a hold from CLOCK low and LATCH high: one more latched rising edge, no latched falling edge. -/
@[simp] theorem feedAll_holdEnd :
    Scan.feedAll ⟨⟨dout, false, true⟩, rising, falling, is, es⟩ b holdEndEvents
      = ⟨⟨dout, false, false⟩, rising + 1, falling, is ++ [(rising + 1, falling)], es ++ [(dout, true)]⟩ := rfl

@[simp] theorem feedAll_sendBits (bs : List Bool) :
    Scan.feedAll ⟨⟨dout, false, lat⟩, rising, falling, is, es⟩ b (sendBitsEvents bs)
      = ⟨⟨bs.getLast?.getD dout, false, lat⟩, if lat then rising + bs.length else rising,
          if lat then falling + bs.length else falling, is, es ++ bs.map (·, lat)⟩ := by
  induction bs generalizing dout rising falling es with
  | nil => simp [sendBitsEvents]
  | cons c bs ih =>
    rw [show sendBitsEvents (c :: bs) = sendBitEvents c ++ sendBitsEvents bs from rfl, Scan.feedAll_append,
      feedAll_sendBit, ih]
    cases lat <;> simp [List.getLast?_cons, Nat.add_assoc, Nat.add_comm 1]

@[simp] theorem feedAll_pulses (n : Nat) :
    Scan.feedAll ⟨⟨dout, false, lat⟩, rising, falling, is, es⟩ b (pulsesEvents n)
      = ⟨⟨dout, false, lat⟩, if lat then rising + n else rising, if lat then falling + n else falling, is,
          es ++ List.replicate n (dout, lat)⟩ := by
  induction n generalizing rising falling es with
  | zero => simp [pulsesEvents]
  | succ n ih =>
    rw [show pulsesEvents (n + 1) = pulseEvents ++ pulsesEvents n from rfl, Scan.feedAll_append, feedAll_pulse, ih]
    cases lat <;> simp [List.replicate_succ, Nat.add_assoc, Nat.add_comm 1]

@[simp] theorem feedAll_readRounds (n : Nat) :
    Scan.feedAll ⟨⟨dout, false, lat⟩, rising, falling, is, es⟩ b (readRounds n)
      = ⟨⟨dout, false, lat⟩, if lat then rising + n else rising, if lat then falling + n else falling, is,
          es ++ List.replicate n (dout, lat)⟩ := by
  induction n generalizing rising falling es with
  | zero => simp [readRounds]
  | succ n ih =>
    rw [show readRounds (n + 1) = .readDataIn :: (pulseEvents ++ readRounds n) from rfl, feedAll_readDataIn,
      Scan.feedAll_append, feedAll_pulse, ih]
    cases lat <;> simp [List.replicate_succ, Nat.add_assoc, Nat.add_comm 1]

end Parts

/-! ## The count over a whole frame -/

/-- The bits `v[hi]` down to `v[lo]`, cut between `v[m+1]` and `v[m]`. -/
theorem bitsDown_append (v : Word) {hi m lo : Nat} (hm : m < hi) (hlo : lo ≤ m) :
    bitsDown v hi (m + 1) ++ bitsDown v m lo = bitsDown v hi lo := by
  unfold bitsDown
  rw [show hi + 1 - lo = (hi + 1 - (m + 1)) + (m + 1 - lo) by omega, List.range_add, List.map_append, List.map_map]
  congr 1
  refine List.map_congr_left fun i hi => ?_
  simp only [Function.comp_apply]
  congr 1
  omega

/-- DATA_OUT and LATCH at the edges of a frame that sends the bits of `w`, the last `n` of them latched. -/
def wordEdges (w : Word) (n : Nat) : List (Bool × Bool) :=
  (bitsDown w 15 n).map (·, false) ++ (bitsDown w (n - 1) 0).map (·, true)

@[simp] theorem length_wordEdges (w : Word) {n : Nat} (h0 : 0 < n) (h : n < 16) : (wordEdges w n).length = 16 := by
  simp [wordEdges]
  omega

/-- The bits at the edges are those of the word, most significant first (30_encoding R55). -/
theorem map_fst_wordEdges (w : Word) {n : Nat} (h0 : 0 < n) (h : n < 16) :
    (wordEdges w n).map Prod.fst = bitsDown w 15 0 := by
  obtain ⟨m, rfl⟩ := Nat.exists_eq_succ_of_ne_zero h0.ne'
  rw [← bitsDown_append w (show m < 15 by omega) (Nat.zero_le m)]
  simp [wordEdges, Function.comp_def]

/-- LATCH is high at the last `n` edges (30_encoding R50). -/
theorem map_snd_wordEdges (w : Word) {n : Nat} (h0 : 0 < n) :
    (wordEdges w n).map Prod.snd = List.replicate (16 - n) false ++ List.replicate n true := by
  simp [wordEdges, Function.comp_def, List.map_const', Nat.sub_add_cancel h0]

section Frames

variable (dout : Bool) (rising falling : Nat) (is : List (Nat × Nat)) (es : List (Bool × Bool)) (b : Bool)

@[simp] theorem feedAll_dataWord (w : Word) :
    Scan.feedAll ⟨⟨dout, false, false⟩, rising, falling, is, es⟩ b (dataWordEvents w)
      = ⟨⟨w.getLsbD 0, false, false⟩, 1, 1, is ++ [(1, 1)], es ++ wordEdges w 1⟩ := by
  simp [dataWordEvents, wordEdges, show bitsDown w 0 0 = [w.getLsbD 0] from rfl]

@[simp] theorem feedAll_globalWord (w : Word) :
    Scan.feedAll ⟨⟨dout, false, false⟩, rising, falling, is, es⟩ b (globalWordEvents w)
      = ⟨⟨w.getLsbD 0, false, false⟩, 3, 3, is ++ [(3, 3)], es ++ wordEdges w 3⟩ := by
  simp [globalWordEvents, wordEdges, show bitsDown w 2 0 = bitsDown w 2 1 ++ [w.getLsbD 0] from rfl]

@[simp] theorem feedAll_cfgWord (v : Word) :
    Scan.feedAll ⟨⟨dout, false, false⟩, rising, falling, is, es⟩ b (cfgWordEvents v)
      = ⟨⟨v.getLsbD 0, false, false⟩, 11, 10, is ++ [(11, 10)], es ++ wordEdges v 11⟩ := by
  simp [cfgWordEvents, wordEdges, show bitsDown v 10 0 = bitsDown v 10 1 ++ [v.getLsbD 0] from rfl]

@[simp] theorem feedAll_enErrDet :
    Scan.feedAll ⟨⟨dout, false, false⟩, rising, falling, is, es⟩ b enErrDetEvents
      = ⟨⟨dout, false, false⟩, 6, 5, is ++ [(6, 5)], es ++ List.replicate 6 (dout, true)⟩ := by
  simp [enErrDetEvents, List.replicate_succ']

@[simp] theorem feedAll_prepErr :
    Scan.feedAll ⟨⟨dout, false, false⟩, rising, falling, is, es⟩ b prepErrEvents
      = ⟨⟨dout, false, false⟩, 9, 8, is ++ [(9, 8)], es ++ List.replicate 9 (dout, true)⟩ := by
  simp [prepErrEvents, List.replicate_succ']

@[simp] theorem feedAll_prepCfg :
    Scan.feedAll ⟨⟨dout, false, false⟩, rising, falling, is, es⟩ b prepCfgEvents
      = ⟨⟨dout, false, false⟩, 5, 4, is ++ [(5, 4)],
          es ++ (List.replicate 11 (dout, false) ++ List.replicate 5 (dout, true))⟩ := by
  simp [prepCfgEvents, List.replicate_succ' (n := 4)]

/-- A readback counts no latched edge and closes no interval. -/
@[simp] theorem feedAll_readReg :
    Scan.feedAll ⟨⟨dout, false, false⟩, rising, falling, is, es⟩ b readRegEvents
      = ⟨⟨dout, false, false⟩, rising, falling, is, es ++ List.replicate 15 (dout, false)⟩ := by
  rw [readRegEvents_eq, Scan.feedAll_append, feedAll_readRounds, feedAll_readDataIn]
  rfl

/-- How many edges of the frame of the word of index `k` are latched (41_grayscale_update R83). -/
def latchedEdges (k : Fin 16) : Nat := if k.val < 15 then 1 else 3

@[simp] theorem feedAll_word (ws : Words) (k : Fin 16) :
    Scan.feedAll ⟨⟨dout, false, false⟩, rising, falling, is, es⟩ b (wordEvents ws k)
      = ⟨⟨(memRead ws k).getLsbD 0, false, false⟩, latchedEdges k, latchedEdges k,
          is ++ [(latchedEdges k, latchedEdges k)], es ++ wordEdges (memRead ws k) (latchedEdges k)⟩ := by
  unfold wordEvents latchedEdges
  split
  · exact feedAll_dataWord ..
  · exact feedAll_globalWord ..

/-- The frames of several words in a row, each with its own interval and edges. -/
theorem feedAll_words (ws : Words) (ks : List (Fin 16)) :
    ∃ dout' rising' falling',
      Scan.feedAll ⟨⟨dout, false, false⟩, rising, falling, is, es⟩ b (ks.flatMap (wordEvents ws))
        = ⟨⟨dout', false, false⟩, rising', falling', is ++ ks.map fun k => (latchedEdges k, latchedEdges k),
            es ++ ks.flatMap fun k => wordEdges (memRead ws k) (latchedEdges k)⟩ := by
  induction ks generalizing dout rising falling is es with
  | nil => exact ⟨dout, rising, falling, by simp⟩
  | cons k ks ih =>
    obtain ⟨d, r, f, h⟩ := ih ((memRead ws k).getLsbD 0) (latchedEdges k) (latchedEdges k)
      (is ++ [(latchedEdges k, latchedEdges k)]) (es ++ wordEdges (memRead ws k) (latchedEdges k))
    exact ⟨d, r, f, by rw [List.flatMap_cons, Scan.feedAll_append, feedAll_word, h]; simp⟩

/-- The settle delay between the two frames of `RDERR` is counted as nothing. -/
@[simp] theorem feedAll_rderr :
    Scan.feedAll ⟨⟨dout, false, false⟩, rising, falling, is, es⟩ b rderrEvents
      = ⟨⟨dout, false, false⟩, 9, 8, is ++ [(6, 5), (9, 8)],
          es ++ (List.replicate 15 (dout, true) ++ List.replicate 15 (dout, false))⟩ := by
  rw [show List.replicate 15 (dout, true) = List.replicate 6 (dout, true) ++ List.replicate 9 (dout, true) from rfl]
  simp [rderrEvents, errPrefix]

@[simp] theorem feedAll_rdcfg :
    Scan.feedAll ⟨⟨dout, false, false⟩, rising, falling, is, es⟩ b rdcfgEvents
      = ⟨⟨dout, false, false⟩, 5, 4, is ++ [(5, 4)],
          es ++ (List.replicate 11 (dout, false) ++ List.replicate 5 (dout, true)
            ++ List.replicate 15 (dout, false))⟩ := by
  simp [rdcfgEvents]

end Frames

/-- The counts of 40_primitives R76 begin with idle pins and nothing counted. -/
theorem scan_idle (dout b : Bool) (l : List Micro) :
    scan (.idle dout) (asEvents b l) = Scan.feedAll ⟨⟨dout, false, false⟩, 0, 0, [], []⟩ b l := rfl

/-! ## The patterns of the frames on the wire -/

/-- The code with latch pattern `latch` and payload `payload` is what the events `l` show. -/
def ShowsFrame (dout b : Bool) (l : List Micro) (latch payload : Word) : Prop :=
  edgeLatch dout (asEvents b l) = bitsDown latch 15 0 ∧ edgeBits dout (asEvents b l) = bitsDown payload 15 0

/-- A frame whose edges are those of `w` with the last `n` latched shows the pattern with its last `n` bits set. -/
theorem showsFrame_of_edges {dout b : Bool} {l : List Micro} {w latch : Word} {n : Nat} (h0 : 0 < n) (h : n < 16)
    (hl : (scan (.idle dout) (asEvents b l)).edges = wordEdges w n)
    (hlatch : bitsDown latch 15 0 = List.replicate (16 - n) false ++ List.replicate n true) :
    ShowsFrame dout b l latch w := by
  unfold ShowsFrame edgeLatch edgeBits
  rw [hl, hlatch]
  exact ⟨map_snd_wordEdges w h0, map_fst_wordEdges w h0 h⟩

/-- A word frame shows its code (30_encoding R50). -/
theorem showsFrame_of_encode {w latch payload : Word} {l : List Micro} {i : Instr} (dout b : Bool)
    (hi : i ∈ [Instr.sendDataWord w, .sendGlobalWord w, .sendCfgWord w]) (hc : encode i = .frame latch payload)
    (hl : routineEvents i = some l) : ShowsFrame dout b l latch payload := by
  simp only [List.mem_cons, List.not_mem_nil, or_false] at hi
  obtain rfl | rfl | rfl := hi <;> cases hc <;> cases hl
  · exact showsFrame_of_edges (n := 1) (by decide) (by decide) (by simp [scan_idle]) rfl
  · exact showsFrame_of_edges (n := 3) (by decide) (by decide) (by simp [scan_idle]) rfl
  · exact showsFrame_of_edges (n := 11) (by decide) (by decide) (by simp [scan_idle]) rfl

/-! ## Signatures of commands -/

/-- Counting an event keeps the intervals closed before. -/
theorem feed_intervals_prefix (k : Scan) (e : Event) : k.intervals <+: (k.feed e).intervals := by
  cases e
  case ll => by_cases h : k.pins.lat = true <;> simp [Scan.feed, h]
  case ch => by_cases h : k.pins.clk = true <;> simp [Scan.feed, h]
  case cl => by_cases h : k.pins.clk = true <;> simp [Scan.feed, h]
  case lh => by_cases h : k.pins.lat = true <;> simp [Scan.feed, h]
  all_goals exact List.prefix_rfl

theorem feedAll_intervals_prefix (k : Scan) (b : Bool) (l : List Micro) :
    k.intervals <+: (k.feedAll b l).intervals := by
  induction l generalizing k with
  | nil => exact List.prefix_rfl
  | cons m l ih => exact (feed_intervals_prefix k _).trans (ih _)

/-- Where a list lowers LATCH while it is high, the edges counted so far are one of the list's signatures. -/
theorem rising_mem_sigs {dout b : Bool} {l : List Micro} {n : Nat} (hn : l[n]? = some .latchLow)
    (hlat : (scan (.idle dout) (asEvents b (l.take n))).pins.lat = true) :
    (scan (.idle dout) (asEvents b (l.take n))).rising ∈ sigs dout (asEvents b l) := by
  obtain ⟨hlt, hget⟩ := List.getElem?_eq_some_iff.1 hn
  rw [scan_idle] at hlat ⊢
  generalize hk : Scan.feedAll ⟨⟨dout, false, false⟩, 0, 0, [], []⟩ b (l.take n) = k at hlat ⊢
  have hwhole : scan (.idle dout) (asEvents b l) = (k.feed .ll).feedAll b (l.drop (n + 1)) := by
    conv_lhs =>
      rw [scan_idle, ← List.take_append_drop n l, List.drop_eq_getElem_cons hlt, hget, Scan.feedAll_append, hk]
    rfl
  have hmem : (k.rising, k.falling) ∈ (k.feed .ll).intervals := by simp [Scan.feed, hlat]
  rw [sigs, hwhole]
  exact List.mem_map_of_mem ((feedAll_intervals_prefix _ b _).subset hmem)

theorem latchedEdges_mem_usedSignatures (k : Fin 16) : latchedEdges k ∈ usedSignatures := by
  unfold latchedEdges
  split <;> decide

/-- The signatures of `UPDATE` are those of its sixteen frames (41_grayscale_update R83). -/
theorem sigs_updateEvents (ws : Words) (dout b : Bool) :
    sigs dout (asEvents b (updateEvents ws)) = (List.finRange 16).map latchedEdges := by
  obtain ⟨d, r, f, h⟩ := feedAll_words dout 0 0 [] [] b ws (List.finRange 16)
  rw [sigs, scan_idle, updateEvents, h, List.nil_append, List.map_map]
  rfl

/-- The event lists of the commands have only the six signatures of 30_encoding R53. -/
theorem sigs_eventList (op : Opcode) (ws : Words) (v : Word) (dout b : Bool) :
    ∀ n ∈ sigs dout (asEvents b (eventList op ws v)), n ∈ usedSignatures := by
  unfold eventList
  split
  · rw [show sigs dout (asEvents b initEvents) = [] from rfl]
    exact List.forall_mem_nil _
  · rw [sigs_updateEvents, List.forall_mem_map]
    exact fun k _ => latchedEdges_mem_usedSignatures k
  all_goals simp [sigs, scan_idle, usedSignatures]

/-- A fetched event is the next of a command in progress. -/
theorem nextEvent_of_fetch {s : State} {i : Instr} (h : s.fetch = .event i) :
    s.busy = true ∧ ∃ m, s.nextEvent = some m ∧ m.instr = i := by
  unfold State.fetch at h
  split_ifs at h with hr hb hv
  cases hn : s.nextEvent with
  | none => simp [hn] at h
  | some m => exact ⟨hb, m, rfl, by simpa [hn] using h⟩

theorem eq_latchLow_of_instr {m : Micro} (h : m.instr = .latchLow) : m = .latchLow := by
  cases m <;> simp_all [Micro.instr]

end Sys2Proof.Machine

open Sys2Proof Sys2Proof.Machine Sys2Proof.Claims

/-- Settles O5: the edges of each frame are in the closed form of the count over it. -/
theorem framePatternsOnTheWire : Obligations.FramePatternsOnTheWire := by
  intro w dout b
  refine ⟨fun i hi latch payload l => showsFrame_of_encode dout b hi, fun latch payload hc => ?prep,
    fun i hi latch l hc hl => ?short, fun latch hc => ?readback⟩
  case prep =>
    cases hc
    exact ⟨by rw [edgeLatch, scan_idle, feedAll_prepCfg]; rfl, by rw [edgeBits, scan_idle, feedAll_prepCfg]; rfl⟩
  case short =>
    simp only [List.mem_cons, List.not_mem_nil, or_false] at hi
    obtain rfl | rfl := hi <;> cases hc <;> cases hl <;> simp [edgeLatch, edgeBits, scan_idle]
  case readback =>
    cases hc
    simp [edgeLatch, scan_idle]

/-- Settles O6: signature, falling count and edges stand in the closed form of the count over each frame. -/
theorem signatureTable : Obligations.SignatureTable := by
  intro w dout b row l hrow hl
  simp only [List.mem_cons, List.not_mem_nil, or_false] at hrow
  obtain rfl | rfl | rfl | rfl | rfl | rfl := hrow <;> cases hl <;> simp [sigs, fallingCounts, rises, scan_idle]

/-- Settles O12: edges and signatures by the closed forms of the count, the other counts by running through the list. -/
theorem fixedListCounts : Obligations.FixedListCounts := by
  intro dout b
  refine ⟨⟨rfl, rfl, rfl⟩, ⟨length_rderrEvents, ?_, ?_, ?_, ?_⟩, ⟨length_rdcfgEvents, ?_, ?_, ?_, ?_⟩⟩
  case refine_4 | refine_8 => revert b; decide +kernel
  all_goals simp [rises, sigs, latchedRises, scan_idle]

/-- Settles O54: a LATCH fall closes an interval of the command's list, and its signature is one of that list's. -/
theorem onlyUsedSignatures : Obligations.OnlyUsedSignatures := by
  intro s hs hf hlat
  obtain ⟨hb, m, hnext, hm⟩ := nextEvent_of_fetch hf
  obtain rfl := eq_latchLow_of_instr hm
  have ht := hs.tracks hb
  rw [ht.count hlat]
  exact sigs_eventList _ _ _ _ _ _ (rising_mem_sigs hnext (ht.lat ▸ hlat))
end

section
/-! PROOFS. `READ_REG`: the rounds of a readback in closed form, and the sixteen samples it assembles. -/

namespace Sys2Proof.Machine

open Sys2Proof.Claims

/-! ## Bits shifted in, bit by bit -/

theorem getLsbD_shiftIn_zero (v : Word) (b : Bool) : (shiftIn v b).getLsbD 0 = b := by
  simp [shiftIn, shl, Word.ofBit]

theorem getLsbD_shiftIn_succ (v : Word) (b : Bool) {i : Nat} (h : i + 1 < 16) :
    (shiftIn v b).getLsbD (i + 1) = v.getLsbD i := by
  rw [shiftIn, shl, Word.ofBit, BitVec.getLsbD_or, BitVec.getLsbD_shiftLeft]
  simp [h]

/-- Bits shifted in stand at the bottom, the last one at bit 0, and what was there has moved up. -/
theorem getLsbD_foldl_shiftIn (v : Word) (bs : List Bool) {i : Nat} (h : i < 16) :
    (bs.foldl shiftIn v).getLsbD i = bs.reverse[i]?.getD (v.getLsbD (i - bs.length)) := by
  induction bs using List.reverseRecOn generalizing i with
  | nil => simp
  | append_singleton bs b ih =>
    rw [List.foldl_append, List.foldl_cons, List.foldl_nil]
    cases i with
    | zero => simpa using getLsbD_shiftIn_zero _ b
    | succ i =>
      rw [getLsbD_shiftIn_succ _ _ h, ih (by omega)]
      simp

/-- Copies of one bit shifted in fill the word from the bottom. -/
theorem filled_foldl_replicate (v : Word) (n : Nat) (b : Bool) :
    Filled v ((List.replicate n b).foldl shiftIn v) n b := by
  intro i hi
  rw [getLsbD_foldl_shiftIn v _ hi, List.reverse_replicate, List.getElem?_replicate, List.length_replicate]
  split <;> rfl

/-- Sixteen bits replace whatever was there, the first one at bit 15 (30_encoding R57). -/
theorem assembledFrom_foldl (v : Word) (b : Nat → Bool) :
    AssembledFrom (fun j => b j.val) (((List.range 16).map b).foldl shiftIn v) := by
  intro j
  rw [getLsbD_foldl_shiftIn v _ (by omega), List.getElem?_reverse (by simp; omega)]
  simp [show 15 - (15 - j.val) = j.val by omega]

/-! ## The rounds of a readback -/

/-- The bit that sample `j` of a readback begun in `s` delivers. -/
def State.readBit (s : State) (j : Nat) : Bool := (s.performAll (readRounds j)).dataInLevel

/-- `t` is reached from `s` by `n` rounds of a readback: CLOCK is low again, the bits are traced and shifted into RXV, and
the target has seen a CLOCK rising edge a round. -/
structure State.ReadRounds (s t : State) (n : Nat) : Prop where
  pins : t.pins = s.pins
  trace : t.trace = s.trace ++ traced ((List.range n).flatMap fun j => [.s (s.readBit j), .ch, .cl])
  rxv : t.rxv = ((List.range n).map s.readBit).foldl shiftIn s.rxv
  target : t.target = (List.replicate n s.dout).foldl (fun t b => t.clockRise b s.lat) s.target
  tmr : t.tmr = s.tmr

/-- One round, from CLOCK low: a sample, then a pulse. -/
theorem performAll_round (s : State) (h : s.clk = false) :
    s.performAll (.readDataIn :: pulseEvents)
      = { s.sampleDataIn with
          target := s.target.clockRise s.dout s.lat
          trace := s.trace ++ traced [.s s.dataInLevel, .ch, .cl]
          upc := s.upc + 3, ports := s.ports.drop 3 } := by
  rw [performAll_cons, performAll_pulse _ (by simpa [State.perform] using h)]
  simp [State.perform, traced, pulseEvents, Micro.event, BitVec.add_assoc]

theorem performAll_readRounds (s : State) (n : Nat) (h : s.clk = false) :
    s.ReadRounds (s.performAll (readRounds n)) n := by
  induction n with
  | zero => exact ⟨rfl, by simp [readRounds, traced], rfl, rfl, rfl⟩
  | succ n ih =>
    have hround : s.performAll (readRounds (n + 1))
        = (s.performAll (readRounds n)).performAll (.readDataIn :: pulseEvents) := by
      rw [← performAll_append, readRounds, List.replicate_succ', List.flatten_concat, readRounds]
    obtain ⟨hpins, htrace, hrxv, htarget, htmr⟩ := ih
    have hpins' := hpins
    simp only [State.pins, Pins.mk.injEq] at hpins'
    obtain ⟨hdout, hclk, hlat⟩ := hpins'
    rw [hround, performAll_round _ (hclk.trans h)]
    constructor
    case pins => exact hpins
    case trace => simp [htrace, List.range_succ, traced, State.readBit]
    case rxv => simp [hrxv, List.range_succ, State.readBit]
    case target => simp [htarget, List.replicate_succ', hdout, hlat]
    case tmr => exact htmr

/-! ## The whole readback -/

@[simp] theorem length_readRounds (n : Nat) : (readRounds n).length = 3 * n := by
  simp [readRounds, pulseEvents, Nat.mul_comm]

/-- The level of DATA_IN is the environment's where it drives the line (10_state R29). -/
theorem dataInLevel_of_driven {s : State} {c : Bool} (h : s.port.dataIn = some c) : s.dataInLevel = c := by
  simp [State.dataInLevel, h]

/-- Sample `j` is taken `3j` steps after the readback began. -/
theorem readBit_of_driven {s : State} {j : Nat} {c : Bool}
    (h : ((s.ports.drop (3 * j)).headD .quiet).dataIn = some c) : s.readBit j = c :=
  dataInLevel_of_driven (by simpa [State.port] using h)

/-- The samples of a readback in one list: one before each pulse, and the last. -/
theorem readRegList_eq (b : Nat → Bool) :
    readRegList (fun j => b j.val) = ((List.range 15).flatMap fun j => [Event.s (b j), .ch, .cl]) ++ [.s (b 15)] := rfl

@[simp] theorem length_readRegList (b : Fin 16 → Bool) : (readRegList b).length = 46 := rfl

@[simp] theorem length_readRegEvents : readRegEvents.length = 46 := rfl

/-- RXV is none of the registers that events leave alone. -/
theorem sameRegisters_clearRxv (s t : State) : s.clearRxv.SameRegisters t ↔ s.SameRegisters t := Iff.rfl

/-- A sample drives no pin (40_primitives R74). -/
theorem sampleDataIn_pins (s : State) : s.sampleDataIn.pins = s.pins := rfl

/-- `READ_REG` performs fifteen rounds and a last sample. -/
theorem performAll_readRegEvents (s : State) :
    s.performAll readRegEvents = (s.performAll (readRounds 15)).sampleDataIn := by
  rw [readRegEvents_eq, performAll_append]
  rfl

/-- What `READ_REG` has in common with every routine (40_primitives R63). -/
theorem routineDone_readReg (s : State) (hclk : s.clk = false) (hlat : s.lat = false) :
    RoutineDone s (s.clearRxv.performAll readRegEvents) s.dout (readRegList fun j => s.clearRxv.readBit j.val) := by
  obtain ⟨hpins, htrace, -, -, htmr⟩ := performAll_readRounds s.clearRxv 15 hclk
  refine ⟨?pins, ?trace, ?upc, ?ports, (sameRegisters_clearRxv s _).1 (performAll_sameRegisters _ _), ?tmr⟩
  case pins =>
    calc (s.clearRxv.performAll readRegEvents).pins
      _ = (s.clearRxv.performAll (readRounds 15)).pins := by rw [performAll_readRegEvents, sampleDataIn_pins]
      _ = ⟨s.dout, s.clk, s.lat⟩ := hpins
      _ = ⟨s.dout, false, false⟩ := by rw [hclk, hlat]
  case trace =>
    rw [performAll_readRegEvents, State.sampleDataIn_trace, htrace, readRegList_eq, traced, traced, List.map_append,
      List.append_assoc]
    rfl
  case upc => rw [performAll_upc, length_readRegEvents, length_readRegList]; rfl
  case ports => rw [performAll_ports, length_readRegEvents, length_readRegList]; rfl
  case tmr => rw [performAll_readRegEvents, State.sampleDataIn_tmr, htmr]; rfl

/-- The sixteen samples of a readback are shifted into RXV, the first one first. -/
theorem readReg_rxv (s : State) (hclk : s.clk = false) :
    (s.performAll readRegEvents).rxv = ((List.range 16).map s.readBit).foldl shiftIn s.rxv := by
  rw [performAll_readRegEvents, State.sampleDataIn_rxv, (performAll_readRounds s 15 hclk).rxv,
    List.range_succ (n := 15), List.map_append, List.foldl_append]
  rfl

/-- The target sees fifteen CLOCK rising edges, none of them latched. -/
theorem readReg_target (s : State) (hclk : s.clk = false) (hlat : s.lat = false) :
    (s.performAll readRegEvents).target
      = { s.target with
          tsr := (List.replicate 15 s.dout).foldl shiftIn s.target.tsr
          rb := s.target.rb <<< min s.target.rbn.val 15
          rbn := ⟨s.target.rbn.val - 15, by omega⟩ } := by
  rw [performAll_readRegEvents, State.sampleDataIn_target, (performAll_readRounds s 15 hclk).target,
    foldl_clockRise, hlat]
  rfl

end Sys2Proof.Machine

open Sys2Proof Sys2Proof.Machine Sys2Proof.Claims

/-- Settles O33: fifteen rounds by induction on their number, then the last sample; sixteen bits fill RXV. -/
theorem readRegAssembles : Obligations.ReadRegAssembles := by
  intro s hclk hlat
  have htarget := readReg_target s.clearRxv hclk hlat
  refine ⟨s.clearRxv.performAll readRegEvents, fun j => s.clearRxv.readBit j.val, rfl,
    routineDone_readReg s hclk hlat, ?rxv, fun j c => readBit_of_driven (s := s.clearRxv), ?target⟩
  case rxv =>
    rw [readReg_rxv s.clearRxv hclk]
    exact assembledFrom_foldl _ _
  case target =>
    rw [htarget]
    exact ⟨filled_foldl_replicate _ _ _, rfl, ⟨rfl, rfl⟩, rfl, rfl, rfl, rfl⟩
end

section
/-! PROOFS. Steps over the events of a routine: a run of steps performs a list of events, and where `READ_REG` begins. -/

namespace Sys2Proof.Machine

open Sys2Proof.Claims

/-! ## Where `READ_REG` stands in a command -/

theorem readDataIn_not_mem_sendBits (bs : List Bool) : Micro.readDataIn ∉ sendBitsEvents bs := by
  simp [sendBitsEvents, sendBitEvents, pulseEvents]

theorem readDataIn_not_mem_dataWord (w : Word) : Micro.readDataIn ∉ dataWordEvents w := by
  simp [dataWordEvents, readDataIn_not_mem_sendBits, sendBitEvents, pulseEvents]

theorem readDataIn_not_mem_globalWord (w : Word) : Micro.readDataIn ∉ globalWordEvents w := by
  simp [globalWordEvents, readDataIn_not_mem_sendBits]

theorem readDataIn_not_mem_cfgWord (v : Word) : Micro.readDataIn ∉ cfgWordEvents v := by
  simp [cfgWordEvents, readDataIn_not_mem_sendBits, holdEndEvents]

theorem readDataIn_not_mem_update (ws : Words) : Micro.readDataIn ∉ updateEvents ws := by
  simp only [updateEvents, List.mem_flatMap, not_exists, not_and]
  intro k _
  unfold wordEvents
  split
  · exact readDataIn_not_mem_dataWord _
  · exact readDataIn_not_mem_globalWord _

theorem readDataIn_not_mem_errPrefix : Micro.readDataIn ∉ errPrefix := by decide +kernel

theorem readDataIn_not_mem_prepCfg : Micro.readDataIn ∉ prepCfgEvents := by decide +kernel

/-- Where a command samples, it runs `READ_REG`: it is a part without samples and then `READ_REG`, which begins at the end of
that part; the other commands do not sample. -/
theorem eventList_reads (op : Opcode) (ws : Words) (v : Word) :
    (Micro.readDataIn ∉ eventList op ws v ∧ readRegStart op = none)
      ∨ ∃ p, eventList op ws v = p ++ readRegEvents ∧ Micro.readDataIn ∉ p ∧ readRegStart op = some p.length := by
  unfold eventList
  split
  · exact .inl ⟨by decide, rfl⟩
  · exact .inl ⟨readDataIn_not_mem_update ws, rfl⟩
  · exact .inr ⟨errPrefix, rfl, readDataIn_not_mem_errPrefix, rfl⟩
  · exact .inr ⟨prepCfgEvents, rfl, readDataIn_not_mem_prepCfg, rfl⟩
  · exact .inl ⟨readDataIn_not_mem_cfgWord v, rfl⟩
  · refine .inl ⟨List.not_mem_nil, ?_⟩
    unfold readRegStart
    split <;> simp_all

/-- The event at which `READ_REG` begins is a sample. -/
theorem readRegStart_event {s : State} {n : Nat} (h : readRegStart s.op = some n) :
    s.events[n]? = some .readDataIn := by
  obtain ⟨-, hnone⟩ | ⟨p, hev, -, hstart⟩ := eventList_reads s.op s.words s.cfgdata
  · simp [hnone] at h
  · obtain rfl : p.length = n := by simpa [hstart] using h
    rw [State.events, hev, List.getElem?_append_right le_rfl, Nat.sub_self]
    rfl

/-- Where the events from `n` on begin with those of `READ_REG`, `READ_REG` begins: earlier the command does not sample, and
later too few events are left. -/
theorem readRegStart_of_drop {s : State} {n : Nat} {rest : List Micro} (h : s.events.drop n = readRegEvents ++ rest) :
    readRegStart s.op = some n := by
  have hsample : s.events[n]? = some .readDataIn := by
    rw [← List.head?_drop, h]
    rfl
  obtain ⟨hno, -⟩ | ⟨p, hev, hno, hstart⟩ := eventList_reads s.op s.words s.cfgdata
  · exact absurd (List.mem_of_getElem? hsample) hno
  · have hlen : s.events.length = p.length + 46 := by rw [State.events, hev, List.length_append, length_readRegEvents]
    have hdrop := congrArg List.length h
    simp only [List.length_drop, List.length_append, length_readRegEvents] at hdrop
    have hge : p.length ≤ n := by
      by_contra hlt
      rw [State.events, hev, List.getElem?_append_left (by omega)] at hsample
      exact hno (List.mem_of_getElem? hsample)
    rw [hstart]
    congr 1
    omega

/-! ## A run of steps performs events -/

theorem beginRoutine_of_ne {s : State} (h : readRegStart s.op ≠ some s.upc.toNat) : s.beginRoutine = s := if_neg h

theorem beginRoutine_of_eq {s : State} (h : readRegStart s.op = some s.upc.toNat) : s.beginRoutine = s.clearRxv := if_pos h

/-- Without a reset, a step of a command in progress performs the first of the events from UPC on. -/
theorem step_performs {s : State} {m : Micro} {r : List Micro} (hr : s.port.rst = false) (hb : s.busy = true)
    (hev : s.events.drop s.upc.toNat = m :: r) : step s = .next (s.beginRoutine.perform m).completeIfDone := by
  have hm : s.nextEvent = some m := by
    rw [State.nextEvent, ← List.head?_drop, hev]
    rfl
  rw [step_event s m.instr (by simp [State.fetch, hr, hb, hm]), exec_instr]
  rfl

@[simp] theorem beginRoutine_events (s : State) : s.beginRoutine.events = s.events := by
  simp [State.events]

/-- Where another event follows, the step leaves the command in progress, at that event. -/
theorem step_goes_on {s : State} {m m' : Micro} {r : List Micro} (hr : s.port.rst = false) (hb : s.busy = true)
    (hev : s.events.drop s.upc.toNat = m :: m' :: r) :
    ∃ t, t = s.beginRoutine.perform m ∧ step s = .next t ∧ t.busy = true ∧ t.op = s.op
      ∧ t.upc.toNat = s.upc.toNat + 1 ∧ t.ports = s.ports.tail ∧ t.events.drop t.upc.toNat = m' :: r := by
  have hlen := congrArg List.length hev
  simp only [List.length_drop, List.length_cons] at hlen
  obtain ⟨-, hbusy, hop, -⟩ := perform_sameRegisters s.beginRoutine m
  have hupc : (s.beginRoutine.perform m).upc.toNat = s.upc.toNat + 1 := by
    rw [perform_upc_toNat m (by simp; omega), State.beginRoutine_upc]
  refine ⟨s.beginRoutine.perform m, rfl, ?step, by simpa [hbusy] using hb, by simpa using hop, hupc, by simp, ?rest⟩
  case step =>
    rw [step_performs hr hb hev, completeIfDone_of_lt _ (by rw [hupc, perform_events, beginRoutine_events]; omega)]
  case rest =>
    rw [hupc, perform_events, beginRoutine_events, ← List.drop_drop, hev]
    rfl

theorem State.NoReset.port {s : State} {n : Nat} (h : s.NoReset (n + 1)) : s.port.rst = false := by
  unfold State.port
  cases hp : s.ports with
  | nil => rfl
  | cons p ps => exact h p (by simp [hp])

theorem State.NoReset.tail {s t : State} {n : Nat} (h : s.NoReset (n + 1)) (ht : t.ports = s.ports.tail) :
    t.NoReset n := by
  intro p hp
  rw [ht] at hp
  cases hs : s.ports with
  | nil => simp [hs] at hp
  | cons q ps => exact h p (by simp_all)

/-- As many steps as there are events in `m :: l`, the next events of the command in progress, perform them; the command
completes where they were its last. RXV is cleared where `READ_REG` begins with the first of them, and it begins with no
other. -/
theorem run_performs {s : State} {m : Micro} {l rest : List Micro} (hb : s.busy = true)
    (hr : s.NoReset (l.length + 1)) (hev : s.events.drop s.upc.toNat = m :: l ++ rest)
    (hstart : ∀ n, s.upc.toNat < n → n < s.upc.toNat + (l.length + 1) → readRegStart s.op ≠ some n) :
    run (l.length + 1) s = .next (s.beginRoutine.performAll (m :: l)).completeIfDone := by
  induction l generalizing s m with
  | nil => simp [run, step_performs hr.port hb hev]
  | cons m' l ih =>
    obtain ⟨t, ht, hstep, hbt, hop, hupc, hports, hevt⟩ := step_goes_on hr.port hb hev
    have hinside : ∀ n, t.upc.toNat ≤ n → n < t.upc.toNat + (l.length + 1) → readRegStart t.op ≠ some n := by
      intro n h h'
      rw [hop]
      exact hstart n (by omega) (by rw [List.length_cons]; omega)
    have hrun := ih hbt (hr.tail hports) hevt fun n h => hinside n h.le
    rw [beginRoutine_of_ne (hinside _ le_rfl (by omega)), ht] at hrun
    rw [List.length_cons, run, hstep, ht]
    exact hrun

/-- `READ_REG` does not begin inside events without samples. -/
theorem readRegStart_ne_of_no_sample {s : State} {u : Nat} {l rest : List Micro} (hev : s.events.drop u = l ++ rest)
    (hno : Micro.readDataIn ∉ l) (n : Nat) (h : u ≤ n) (h' : n < u + l.length) : readRegStart s.op ≠ some n := by
  intro hstart
  have hsample := readRegStart_event hstart
  obtain ⟨k, rfl⟩ := Nat.exists_eq_add_of_le h
  rw [← List.getElem?_drop, hev, List.getElem?_append_left (by omega)] at hsample
  exact hno (List.mem_of_getElem? hsample)

/-- Steps over the events of a routine without samples perform it. -/
theorem run_performs_no_sample {s : State} {l rest : List Micro} (hb : s.busy = true) (hr : s.NoReset l.length)
    (hev : s.events.drop s.upc.toNat = l ++ rest) (hne : l ≠ []) (hno : Micro.readDataIn ∉ l) :
    run l.length s = .next (s.performAll l).completeIfDone := by
  have hstart := readRegStart_ne_of_no_sample hev hno
  cases l with
  | nil => exact absurd rfl hne
  | cons m l =>
    rw [List.length_cons, run_performs hb hr hev fun n h => hstart n h.le,
      beginRoutine_of_ne (hstart _ le_rfl (by simp))]

/-- Steps over the events of `READ_REG` perform it from a cleared RXV. -/
theorem run_performs_readReg {s : State} {rest : List Micro} (hb : s.busy = true)
    (hr : s.NoReset readRegEvents.length) (hev : s.events.drop s.upc.toNat = readRegEvents ++ rest) :
    run readRegEvents.length s = .next (s.clearRxv.performAll readRegEvents).completeIfDone := by
  have hstart := readRegStart_of_drop hev
  rw [← beginRoutine_of_eq hstart]
  refine run_performs (m := .readDataIn) (l := readRegEvents.tail) hb hr hev fun n h _ heq => ?_
  rw [hstart, Option.some.injEq] at heq
  omega

end Sys2Proof.Machine

open Sys2Proof Sys2Proof.Machine Sys2Proof.Claims

/-- Settles O35: the steps perform the events of the routine, and `READ_REG`, the one routine that samples, begins exactly
where RXV is cleared. -/
theorem stepsPerformRoutines : Obligations.StepsPerformRoutines := by
  intro s i l rest hl hb hr hev
  cases i <;> cases hl
  case sendDataWord w =>
    exact run_performs_no_sample hb hr hev (by simp [dataWordEvents]) (readDataIn_not_mem_dataWord w)
  case sendGlobalWord w =>
    exact run_performs_no_sample hb hr hev (by simp [globalWordEvents]) (readDataIn_not_mem_globalWord w)
  case sendCfgWord v =>
    exact run_performs_no_sample hb hr hev (by simp [cfgWordEvents]) (readDataIn_not_mem_cfgWord v)
  case prepCfg => exact run_performs_no_sample hb hr hev (by decide) readDataIn_not_mem_prepCfg
  case enErrDet => exact run_performs_no_sample hb hr hev (by decide) (by decide)
  case prepErr => exact run_performs_no_sample hb hr hev (by decide) (by decide)
  case readReg => exact run_performs_readReg hb hr hev
end

section
/-! PROOFS. The pin events and their composites: an edge and a redundant drive of a pin in closed form, the level
DATA_IN delivers, what a redundant drive leaves alone, and which instruction a step runs. -/

namespace Sys2Proof.Machine

open Sys2Proof.Claims

/-! ## Edges and redundant drives of the pins -/

theorem raiseClock_edge (s : State) (h : s.clk = false) :
    s.raiseClock
      = { s with
          clk := true
          target := s.target.clockRise s.dout s.lat
          trace := s.trace ++ [.pin .ch], upc := s.upc + 1, ports := s.ports.tail } := by
  simp [State.raiseClock, h, State.clockRise, State.emit]

theorem raiseClock_redundant (s : State) (h : s.clk = true) : s.raiseClock = s.emit .ch := by
  simp [State.raiseClock, State.emit, h]

/-- On an edge the reaction of the target comes first, and LATCH is low after it (46_target_device R123). -/
theorem lowerLatch_edge (s : State) (h : s.lat = true) :
    s.lowerLatch
      = { s.latchFall with
          lat := false, trace := s.trace ++ [.pin .ll], upc := s.upc + 1, ports := s.ports.tail } := by
  simp [State.lowerLatch, State.emit, h]

theorem lowerLatch_redundant (s : State) (h : s.lat = false) : s.lowerLatch = s.emit .ll := by
  simp [State.lowerLatch, State.emit, h]

/-- The end of a hold from CLOCK low and LATCH high: the reaction is that of the target after one more latched edge,
since it depends on the target and on the free values used alone. -/
theorem performAll_holdEnd (s : State) (hclk : s.clk = false) (hlat : s.lat = true) :
    s.performAll holdEndEvents
      = { ({ s with target := s.target.clockRise s.dout true } : State).latchFall with
          clk := false, lat := false
          trace := s.trace ++ traced [.ch, .ll, .cl], upc := s.upc + 3, ports := s.ports.drop 3 } := by
  obtain ⟨htarget, hdraws⟩ := latchFall_congr s.raiseClock { s with target := s.target.clockRise s.dout true }
    (by simp [hclk, hlat]) (by simp)
  rw [show s.performAll holdEndEvents = s.raiseClock.lowerLatch.lowerClock from rfl,
    lowerLatch_edge _ (by simpa using hlat)]
  apply State.eq_of_fields
  case hp => simp [State.pins]
  case hr => simp [State.SameRegisters]
  case h16 => exact htarget
  case h17 => exact hdraws
  case h18 => simp [← List.drop_one]
  all_goals simp [traced, BitVec.add_assoc]

/-! ## A CLOCK rising edge, bit by bit -/

theorem shiftedIn_shiftIn (v : Word) (b : Bool) : ShiftedIn v (shiftIn v b) b :=
  ⟨getLsbD_shiftIn_zero v b, fun _ hi => getLsbD_shiftIn_succ v b (by omega)⟩

/-- A CLOCK rising edge does what 46_target_device R121 lists; the readback moves up as if 0 were shifted in. -/
theorem afterClockRise_clockRise (t : Target) (dout lat : Bool) :
    AfterClockRise t (t.clockRise dout lat) dout lat := by
  refine ⟨shiftedIn_shiftIn _ _, rfl, fun h => ?closed, fun h => ⟨?shifted, ?counted⟩, rfl, rfl, rfl, rfl⟩
  case closed => simp [Target.clockRise, h]
  case shifted => simpa [Target.clockRise, h, shiftIn, Word.ofBit] using shiftedIn_shiftIn t.rb false
  case counted =>
    have hle : 1 ≤ t.rbn := Fin.le_def.2 h
    simp only [Target.clockRise, h, if_true, Fin.sub_val_of_le hle]
    exact Nat.sub_add_cancel h

/-! ## The level of DATA_IN -/

/-- Inside the readback window the target shows bit 15 of RB (46_target_device R126). -/
theorem dataInLevel_of_window {s : State} (h : s.port.dataIn = none) (hn : 0 < s.target.rbn.val) :
    s.dataInLevel = s.target.rb.getLsbD 15 := by
  simp [State.dataInLevel, h, hn.ne']

/-- Outside it the level is a free value (46_target_device R126). -/
theorem dataInLevel_of_free {s : State} (h : s.port.dataIn = none) (hn : s.target.rbn.val = 0) :
    s.dataInLevel = Config.freeBit s.draws := by
  simp [State.dataInLevel, h, hn]

theorem lineFree_iff (s : State) : s.lineFree = true ↔ s.port.dataIn = none ∧ s.target.rbn.val = 0 := by
  simp [State.lineFree]

/-- A sample of a line that is driven uses no free value. -/
theorem sampleDataIn_of_driven {s : State} {b : Bool} (hb : s.dataInLevel = b) (hf : ¬ s.lineFree = true) :
    s.sampleDataIn
      = { s with
          rxv := shiftIn s.rxv b
          trace := s.trace ++ [.pin (.s b)], upc := s.upc + 1, ports := s.ports.tail } := by
  simp [State.sampleDataIn, State.emit, hb, hf]

/-- A sample of a line that is free uses the next free value. -/
theorem sampleDataIn_of_free {s : State} {b : Bool} (hb : s.dataInLevel = b) (hf : s.lineFree = true) :
    s.sampleDataIn
      = { s with
          rxv := shiftIn s.rxv b, draws := s.draws + 1
          trace := s.trace ++ [.pin (.s b)], upc := s.upc + 1, ports := s.ports.tail } := by
  simp [State.sampleDataIn, State.emit, hb, hf]

/-! ## Redundant drives -/

/-- A redundant drive leaves the pins as they are. -/
theorem after_of_redundant {p : Pins} {e : Event} (h : e.redundant p = true) : p.after e = p := by
  simp only [Event.redundant, Bool.and_eq_true, decide_eq_true_eq] at h
  exact h.2

/-- The target reacts to edges only, so an event that leaves the pins as they are leaves the target as it is. -/
theorem perform_target_of_pins (s : State) (m : Micro) (h : (s.perform m).pins = s.pins) :
    (s.perform m).target = s.target := by
  cases m
  case clockHigh =>
    have hclk : s.clk = true := (congrArg Pins.clk h).symm.trans s.raiseClock_clk
    simp [State.perform, hclk]
  case latchHigh =>
    have hlat : s.lat = true := (congrArg Pins.lat h).symm.trans s.raiseLatch_lat
    simp [State.perform, hlat]
  case latchLow =>
    have hlat : s.lat = false := (congrArg Pins.lat h).symm.trans s.lowerLatch_lat
    simp [State.perform, hlat]
  all_goals rfl

/-- The waveform does not see redundant drives (40_primitives R64). -/
theorem waveform_essential (p : Pins) (l : List Event) : waveform p (essential p l) = waveform p l := by
  induction l generalizing p with
  | nil => rfl
  | cons e l ih => by_cases h : e.redundant p = true <;> simp [essential, waveform, h, ih]

/-! ## What a step fetches -/

theorem fetch_event {s : State} {m : Micro} (hr : s.port.rst = false) (hb : s.busy = true)
    (hm : s.nextEvent = some m) : s.fetch = .event m.instr := by
  simp [State.fetch, hr, hb, hm]

theorem fetch_command {s : State} (hr : s.port.rst = false) (hb : s.busy = false) (hv : s.port.cmdValid = true) :
    s.fetch = .command (decodeHost s.port.cmdOp s.port.cmdWords s.port.cmdMask s.port.cmdGain) := by
  simp [State.fetch, hr, hb, hv]

theorem fetch_idle {s : State} (hr : s.port.rst = false) (hb : s.busy = false) (hv : s.port.cmdValid = false) :
    s.fetch = .idle := by
  simp [State.fetch, hr, hb, hv]

end Sys2Proof.Machine

open Sys2Proof Sys2Proof.Machine Sys2Proof.Claims

/-- Settles O22: the target reacts to edges only, and a list has the waveform of its essential events. -/
theorem redundantDrivesInvisible : Obligations.RedundantDrivesInvisible := by
  refine ⟨fun s t m b hred hexec => ?drive, fun p l r h => ?waveform⟩
  case drive =>
    obtain rfl : s.perform m = t := by simpa [exec_instr] using hexec
    have hpins : (s.perform m).pins = s.pins := (perform_pins s m b).trans (after_of_redundant hred)
    exact ⟨hpins, perform_target_of_pins s m hpins⟩
  case waveform => rw [← waveform_essential p l, h, waveform_essential]

/-- Settles O13: `SET_DATA` performs its event. -/
theorem setDataCompletes : Obligations.SetDataCompletes := fun b => exec_instr (.setData b)

/-- Settles O14: `CLOCK_LOW` performs its event. -/
theorem clockLowCompletes : Obligations.ClockLowCompletes := exec_instr .clockLow

/-- Settles O15, by whether CLOCK rises. -/
theorem clockHighCompletes : Obligations.ClockHighCompletes := by
  refine fun s => ⟨fun h => ⟨s.target.clockRise s.dout s.lat, afterClockRise_clockRise _ _ _, ?edge⟩,
    fun h => ?redundant⟩
  case edge => exact congrArg Host.Outcome.next (raiseClock_edge s h)
  case redundant => exact congrArg Host.Outcome.next (raiseClock_redundant s h)

/-- Settles O17, by whether LATCH falls; the reaction is the instruction its signature decodes to. -/
theorem latchLowCompletes : Obligations.LatchLowCompletes := by
  refine fun s => ⟨fun h => ⟨s.latchFall, latchFall_eq_exec s, ?edge⟩, fun h => ?redundant⟩
  case edge => exact congrArg Host.Outcome.next (lowerLatch_edge s h)
  case redundant => exact congrArg Host.Outcome.next (lowerLatch_redundant s h)

/-- Settles O18, by what drives DATA_IN: the environment, the target, or nothing. -/
theorem readDataInCompletes : Obligations.ReadDataInCompletes := by
  refine fun s => ⟨fun b h => ⟨shiftIn s.rxv b, shiftedIn_shiftIn _ _, ?driven⟩,
    fun h hn => ⟨shiftIn s.rxv _, shiftedIn_shiftIn _ _, ?window⟩,
    fun h hn => ⟨shiftIn s.rxv _, shiftedIn_shiftIn _ _, ?free⟩⟩
  case driven =>
    exact congrArg Host.Outcome.next (sampleDataIn_of_driven (dataInLevel_of_driven h) (by simp [lineFree_iff, h]))
  case window =>
    exact congrArg Host.Outcome.next
      (sampleDataIn_of_driven (dataInLevel_of_window h hn) (by simp [lineFree_iff, hn.ne']))
  case free =>
    exact congrArg Host.Outcome.next (sampleDataIn_of_free (dataInLevel_of_free h hn) ((lineFree_iff s).2 ⟨h, hn⟩))

/-- Settles O19: `SETTLE` performs its event. -/
theorem settleCompletes : Obligations.SettleCompletes := exec_instr .settle

/-- Settles O20, from the closed forms of a pulse and of a bit. -/
theorem pulsesComplete : Obligations.PulsesComplete := by
  refine fun s h => ⟨⟨_, afterClockRise_clockRise _ _ _, ?pulse⟩,
    fun b => ⟨_, afterClockRise_clockRise _ _ _, ?bit⟩⟩
  case pulse =>
    rw [show exec .pulseClock s = .next (s.performAll pulseEvents) from rfl, performAll_pulse s h, h]
    rfl
  case bit =>
    rw [show exec (.sendBit b) s = .next (s.performAll (sendBitEvents b)) from rfl, performAll_sendBit s b h, h]
    rfl

/-- Settles O21, from the closed form of `HOLD_END`. -/
theorem holdEndCompletes : Obligations.HoldEndCompletes := fun s hclk hlat =>
  ⟨_, _, afterClockRise_clockRise _ _ _, latchFall_eq_exec { s with target := s.target.clockRise s.dout true },
    congrArg Host.Outcome.next (performAll_holdEnd s hclk hlat)⟩

/-- Settles O60, by what the step fetches. -/
theorem stepRunsDecoded : Obligations.StepRunsDecoded := by
  refine fun s hr => ⟨fun m hb hm => step_event s m.instr (fetch_event hr hb hm), fun i hb hv hi => ?command,
    fun hb hv => ?idle⟩
  case command =>
    cases hi
    rw [step, fetch_command hr hb hv]
  case idle =>
    rw [step, fetch_idle hr hb hv]
    rfl
end

section
/-! PROOFS. The events of `UPDATE`: its event at each index, the counts over its sixteen frames, and the bit and the
LATCH level at each of its CLOCK rising edges. -/

namespace Sys2Proof.Machine

open Sys2Proof.Claims

/-! ## Parts of one length in a row -/

/-- In a row of parts of `n` entries each, entry `n * k + i` is entry `i` of part `k`. -/
theorem getElem?_flatMap_of_length {α β : Type} {f : α → List β} {n : Nat} (hf : ∀ x, (f x).length = n)
    (xs : List α) (k : Nat) {i : Nat} (hi : i < n) : (xs.flatMap f)[n * k + i]? = xs[k]?.bind fun x => (f x)[i]? := by
  induction xs generalizing k with
  | nil => simp
  | cons x xs ih =>
    rw [List.flatMap_cons]
    cases k with
    | zero => simp [List.getElem?_append_left, hf, hi]
    | succ k =>
      rw [List.getElem?_append_right (by rw [hf, Nat.mul_succ]; omega), hf,
        show n * (k + 1) + i - n = n * k + i by rw [Nat.mul_succ]; omega, ih, List.getElem?_cons_succ]

/-- The part of index `k`, where there is one part for each of the sixteen words. -/
theorem getElem?_flatMap_finRange {β : Type} {f : Fin 16 → List β} {n : Nat} (hf : ∀ x, (f x).length = n)
    {k i : Nat} (hk : k < 16) (hi : i < n) : ((List.finRange 16).flatMap f)[n * k + i]? = (f ⟨k, hk⟩)[i]? := by
  simp [getElem?_flatMap_of_length hf _ k hi, hk]

/-! ## The event at each index -/

/-- The events of a data word stand where 41_grayscale_update R78 has them. -/
theorem asEvents_dataWord (w : Word) (b : Bool) : asEvents b (dataWordEvents w) = (List.range 50).map (dataWordAt w) :=
  rfl

/-- The events of the global word stand where 41_grayscale_update R79 has them. -/
theorem asEvents_globalWord (w : Word) (b : Bool) :
    asEvents b (globalWordEvents w) = (List.range 50).map (globalWordAt w) := rfl

/-- `EV(UPDATE)` is the sixteen frames in a row, as events too. -/
theorem asEvents_update (ws : Words) (b : Bool) :
    asEvents b (updateEvents ws) = (List.finRange 16).flatMap fun k => asEvents b (wordEvents ws k) :=
  List.map_flatMap ..

theorem length_asEvents_word (ws : Words) (b : Bool) (k : Fin 16) : (asEvents b (wordEvents ws k)).length = 50 := by
  simp [asEvents]

/-- Event `r` of the frame of word `k` is event `50 * k + r` of `UPDATE`. -/
theorem getElem?_asEvents_word (words : BitVec 256) (b : Bool) {k r : Nat} (hk : k < 16) (hr : r < 50) :
    (asEvents b (wordEvents (unpackWords words) ⟨k, hk⟩))[r]? = some (updateAt words (50 * k + r)) := by
  have hword : memRead (unpackWords words) ⟨k, hk⟩ = words.extractLsb' (16 * k) 16 := by
    simp [memRead, unpackWords]
  rw [wordEvents, updateAt, hword, show (50 * k + r) / 50 = k by omega, show (50 * k + r) % 50 = r by omega]
  split
  · simp [asEvents_dataWord, hr]
  · obtain rfl : k = 15 := by simp_all; omega
    simp [asEvents_globalWord, hr]

theorem getElem?_asEvents_update (words : BitVec 256) (b : Bool) {e : Nat} (he : e < 800) :
    (asEvents b (updateEvents (unpackWords words)))[e]? = some (updateAt words e) := by
  have hk : e / 50 < 16 := by omega
  have hr : e % 50 < 50 := by omega
  rw [asEvents_update, ← Nat.div_add_mod e 50, getElem?_flatMap_finRange (length_asEvents_word _ b) hk hr,
    getElem?_asEvents_word words b hk hr]

/-- The events of `UPDATE` in one list, by their indices. -/
theorem asEvents_update_eq_range (words : BitVec 256) (b : Bool) :
    asEvents b (updateEvents (unpackWords words)) = (List.range 800).map (updateAt words) := by
  refine List.ext_getElem? fun e => ?_
  by_cases he : e < 800
  · simp [getElem?_asEvents_update words b he, he]
  · rw [List.getElem?_eq_none (by simp [asEvents]; omega), List.getElem?_eq_none (by simp; omega)]

/-! ## What needs no count over the pins -/

theorem asEvents_append (b : Bool) (l r : List Micro) : asEvents b (l ++ r) = asEvents b l ++ asEvents b r :=
  List.map_append

theorem pulses_sendBits_append (bs : List Bool) (b : Bool) (r : List Event) :
    pulses (asEvents b (sendBitsEvents bs) ++ r) = bs.length + pulses r := by
  induction bs with
  | nil => simp [sendBitsEvents, asEvents]
  | cons c bs ih =>
    have hbit : pulses (asEvents b (sendBitsEvents (c :: bs)) ++ r)
        = 1 + pulses (asEvents b (sendBitsEvents bs) ++ r) := by
      simp [sendBitsEvents, sendBitEvents, pulseEvents, asEvents, Micro.event, pulses]
    rw [hbit, ih, List.length_cons]
    omega

/-- The bits of `w`, LATCH rising before the last `n` of them: a frame but for its LATCH fall. -/
def wordBits (w : Word) (n : Nat) : List Micro :=
  sendBitsEvents (bitsDown w 15 n) ++ [.latchHigh] ++ sendBitsEvents (bitsDown w (n - 1) 0)

/-- Both frames of 41_grayscale_update send the bits of their word and let LATCH fall (R78, R79). -/
theorem wordEvents_eq (ws : Words) (k : Fin 16) :
    wordEvents ws k = wordBits (memRead ws k) (latchedEdges k) ++ [.latchLow] := by
  unfold wordEvents latchedEdges
  split <;> rfl

theorem latchedEdges_pos (k : Fin 16) : 0 < latchedEdges k := by
  unfold latchedEdges
  split <;> decide

theorem latchedEdges_lt (k : Fin 16) : latchedEdges k < 16 := by
  unfold latchedEdges
  split <;> decide

/-- A frame has sixteen pulses, whatever follows it. -/
theorem pulses_word_append (ws : Words) (k : Fin 16) (b : Bool) (r : List Event) :
    pulses (asEvents b (wordEvents ws k) ++ r) = 16 + pulses r := by
  have hpos := latchedEdges_pos k
  have hlt := latchedEdges_lt k
  have hlatch : ∀ m ∈ [Micro.latchHigh, .latchLow], ∀ r, pulses (asEvents b [m] ++ r) = pulses r := by
    simp [asEvents, Micro.event, pulses]
  simp only [wordEvents_eq, wordBits, asEvents_append, List.append_assoc, pulses_sendBits_append,
    hlatch .latchHigh (by simp), hlatch .latchLow (by simp), length_bitsDown]
  omega

theorem pulses_update (ws : Words) (b : Bool) : pulses (asEvents b (updateEvents ws)) = 256 := by
  have key : ∀ ks : List (Fin 16), pulses (ks.flatMap fun k => asEvents b (wordEvents ws k)) = 16 * ks.length := by
    intro ks
    induction ks with
    | nil => rfl
    | cons k ks ih => rw [List.flatMap_cons, pulses_word_append, ih, List.length_cons]; omega
  rw [asEvents_update, key, List.length_finRange]

/-- Only an `S` is a sample, and only it becomes one. -/
theorem samples_eq_zero {l : List Micro} (b : Bool) (h : .readDataIn ∉ l) : samples (asEvents b l) = 0 := by
  rw [samples, List.length_eq_zero_iff, List.filter_eq_nil_iff, asEvents, List.forall_mem_map]
  intro m hm
  cases m <;> simp_all [Micro.event]

theorem settles_eq_zero {l : List Micro} (b : Bool) (h : .settle ∉ l) : settles (asEvents b l) = 0 := by
  rw [settles, List.length_eq_zero_iff, List.filter_eq_nil_iff, asEvents, List.forall_mem_map]
  intro m hm
  cases m <;> simp_all [Micro.event]

theorem settle_not_mem_update (ws : Words) : Micro.settle ∉ updateEvents ws := by
  simp [updateEvents, wordEvents_eq, wordBits, sendBitsEvents, sendBitEvents, pulseEvents]

theorem dataEvents_word (ws : Words) (k : Fin 16) (b : Bool) : dataEvents (asEvents b (wordEvents ws k)) = 16 := by
  unfold wordEvents
  split <;> rfl

theorem dataEvents_update (ws : Words) (b : Bool) : dataEvents (asEvents b (updateEvents ws)) = 256 := by
  have hword := dataEvents_word ws (b := b)
  simp only [dataEvents] at hword
  simp [asEvents_update, dataEvents, List.filter_flatMap, List.length_flatMap, hword]

/-! ## DATA_OUT and LATCH at each edge -/

theorem edges_update (ws : Words) (dout b : Bool) :
    (scan (.idle dout) (asEvents b (updateEvents ws))).edges
      = (List.finRange 16).flatMap fun k => wordEdges (memRead ws k) (latchedEdges k) := by
  obtain ⟨d, r, f, h⟩ := feedAll_words dout 0 0 [] [] b ws (List.finRange 16)
  rw [scan_idle, updateEvents, h]
  rfl

theorem length_wordEdges_latchedEdges (w : Word) (k : Fin 16) : (wordEdges w (latchedEdges k)).length = 16 :=
  length_wordEdges w (latchedEdges_pos k) (latchedEdges_lt k)

/-- DATA_OUT and LATCH at rising edge `16k + i` are those at edge `i` of the frame of word `k`. -/
theorem getElem?_edges_update (ws : Words) (dout b : Bool) {k i : Nat} (hk : k < 16) (hi : i < 16) :
    (scan (.idle dout) (asEvents b (updateEvents ws))).edges[16 * k + i]?
      = (wordEdges ws[k] (latchedEdges ⟨k, hk⟩))[i]? := by
  rw [edges_update, getElem?_flatMap_finRange (fun k => length_wordEdges_latchedEdges _ k) hk hi]
  rfl

theorem rises_update (ws : Words) (dout b : Bool) : rises dout (asEvents b (updateEvents ws)) = 256 := by
  simp [rises, edges_update, List.length_flatMap, length_wordEdges_latchedEdges]

/-- As many edges are latched as the frame has after LATCH rises. -/
theorem length_filter_wordEdges (w : Word) {n : Nat} (h0 : 0 < n) : ((wordEdges w n).filter Prod.snd).length = n := by
  simp [wordEdges, List.filter_map, Function.comp_def, Nat.sub_add_cancel h0]

theorem latchedRises_update (ws : Words) (dout b : Bool) :
    latchedRises dout (asEvents b (updateEvents ws)) = 18 := by
  rw [latchedRises, edges_update, List.filter_flatMap, List.length_flatMap]
  simp only [length_filter_wordEdges _ (latchedEdges_pos _)]
  decide

/-- LATCH at edge `i` of a frame whose last `n` edges are latched. -/
theorem getElem?_latchPattern {n i : Nat} (hn : n ≤ 16) (hi : i < 16) :
    (List.replicate (16 - n) false ++ List.replicate n true)[i]? = some (decide (16 - n ≤ i)) := by
  by_cases h : i < 16 - n
  · simp [List.getElem?_append_left, h]
    omega
  · rw [List.getElem?_append_right (by simpa using h)]
    simp [List.getElem?_replicate]
    omega

theorem getElem?_edgeLatch_update (ws : Words) (dout b : Bool) {k i : Nat} (hk : k < 16) (hi : i < 16) :
    (edgeLatch dout (asEvents b (updateEvents ws)))[16 * k + i]?
      = some (decide (if k < 15 then i = 15 else 13 ≤ i)) := by
  rw [edgeLatch, List.getElem?_map, getElem?_edges_update ws dout b hk hi, ← List.getElem?_map,
    map_snd_wordEdges _ (latchedEdges_pos _), getElem?_latchPattern (latchedEdges_lt _).le hi, Option.some.injEq,
    decide_eq_decide]
  unfold latchedEdges
  split <;> omega

theorem getElem?_edgeBits_update (ws : Words) (dout b : Bool) {k i : Nat} (hk : k < 16) (hi : i < 16) :
    (edgeBits dout (asEvents b (updateEvents ws)))[16 * k + i]? = some (ws[k].getLsbD (15 - i)) := by
  rw [edgeBits, List.getElem?_map, getElem?_edges_update ws dout b hk hi, ← List.getElem?_map,
    map_fst_wordEdges _ (latchedEdges_pos _) (latchedEdges_lt _)]
  simp [bitsDown, hi]

end Sys2Proof.Machine

open Sys2Proof Sys2Proof.Machine Sys2Proof.Claims

/-- Settles O8: the frames are in a row, 50 events each, and R78 and R79 give the events of a frame. -/
theorem updateEventIndex : Obligations.UpdateEventIndex := fun words b _ => getElem?_asEvents_update words b

/-- Settles O9: the counts of a frame, and LATCH at its edges, sixteen frames in a row. -/
theorem updateCounts : Obligations.UpdateCounts := fun ws dout b =>
  ⟨length_updateEvents ws, rises_update ws dout b, pulses_update ws b, sigs_updateEvents ws dout b,
    latchedRises_update ws dout b, samples_eq_zero b (readDataIn_not_mem_update ws),
    settles_eq_zero b (settle_not_mem_update ws), dataEvents_update ws b,
    fun _ hk _ hi => getElem?_edgeLatch_update ws dout b hk hi⟩

/-- Settles O10: the bits at the edges of a frame are those of its word, most significant first. -/
theorem updateBitOrder : Obligations.UpdateBitOrder := fun ws dout b _ _ hk hi =>
  getElem?_edgeBits_update ws dout b hk hi
end

section
/-! PROOFS. The frames of 41_grayscale_update at the target: in closed form, what a frame does from idle pins. -/

namespace Sys2Proof.Machine

open Sys2Proof.Claims

/-! ## A frame but for its LATCH fall -/

/-- The target once the bits of `w` have been sent, the last `n` of them latched (46_target_device R121, R122). -/
def Target.sendWord (t : Target) (w : Word) (n : Nat) : Target :=
  { t with tsr := w, lcnt := n, rb := t.rb <<< min t.rbn.val 16, rbn := ⟨t.rbn.val - 16, by omega⟩ }

/-- The sixteen bits of a word replace the shift register (30_encoding R57). -/
theorem foldl_bitsDown (v w : Word) {n : Nat} (h0 : 0 < n) (h : n < 16) :
    (bitsDown w (n - 1) 0).foldl shiftIn ((bitsDown w 15 n).foldl shiftIn v) = w := by
  obtain ⟨m, rfl⟩ := Nat.exists_eq_succ_of_ne_zero h0.ne'
  rw [← List.foldl_append, Nat.succ_sub_one, bitsDown_append w (by omega) (Nat.zero_le m),
    foldl_shiftIn_full _ _ (by simp), assemble_bitsDown]

theorem getLast?_bitsDown (w : Word) (hi : Nat) : (bitsDown w hi 0).getLast? = some (w.getLsbD 0) := by
  simp [bitsDown, List.range_succ]

/-- The target sees the edges before LATCH rises, the rise, and the edges after it. -/
theorem foldl_clockRise_wordBits (t : Target) (w : Word) {n : Nat} (h0 : 0 < n) (h : n < 16) :
    (bitsDown w (n - 1) 0).foldl (fun t b => t.clockRise b true)
        { (bitsDown w 15 n).foldl (fun t b => t.clockRise b false) t with lcnt := 0 }
      = t.sendWord w n := by
  simp only [foldl_clockRise, foldl_bitsDown _ w h0 h, Target.sendWord, length_bitsDown]
  congr 1
  · simp; omega
  · rw [← BitVec.shiftLeft_add]
    congr 1
    omega
  · simp; omega

theorem length_wordBits (w : Word) {n : Nat} (h0 : 0 < n) (h : n < 16) : (wordBits w n).length = 49 := by
  simp [wordBits]
  omega

theorem readDataIn_not_mem_wordBits (w : Word) (n : Nat) : Micro.readDataIn ∉ wordBits w n := by
  simp [wordBits, readDataIn_not_mem_sendBits]

/-- Events without samples are traced as they stand. -/
theorem performAll_traced (s : State) (b : Bool) {l : List Micro} (h : .readDataIn ∉ l) :
    (s.performAll l).trace = s.trace ++ traced (asEvents b l) := by
  rw [performAll_trace s l b h, traced, asEvents, List.map_map]
  rfl

/-- From idle pins the bits of a word leave LATCH high. -/
theorem performAll_wordBits (s : State) (w : Word) {n : Nat} (h0 : 0 < n) (h : n < 16) (hclk : s.clk = false)
    (hlat : s.lat = false) :
    s.performAll (wordBits w n)
      = { s with
          dout := w.getLsbD 0, lat := true
          target := s.target.sendWord w n
          trace := s.trace ++ traced (asEvents false (wordBits w n))
          upc := s.upc + 49, ports := s.ports.drop 49 } := by
  have htrace := performAll_traced s false (readDataIn_not_mem_wordBits w n)
  have hupc := performAll_upc s (wordBits w n)
  have hports := performAll_ports s (wordBits w n)
  rw [length_wordBits w h0 h] at hupc hports
  have hsame := performAll_sameRegisters s (wordBits w n)
  have hparts : s.performAll (wordBits w n)
      = (s.performAll (sendBitsEvents (bitsDown w 15 n))).raiseLatch.performAll
          (sendBitsEvents (bitsDown w (n - 1) 0)) := by
    rw [wordBits, performAll_append, performAll_append]
    rfl
  rw [performAll_sendBits s _ hclk, raiseLatch_edge _ (by exact hlat), performAll_sendBits _ _ (by exact hclk)]
    at hparts
  simp only [hlat, foldl_clockRise_wordBits _ w h0 h, getLast?_bitsDown] at hparts
  apply State.eq_of_fields
  case hr => exact hsame
  case h10 => exact hupc
  case h15 => exact htrace
  case h18 => exact hports
  case hp => rw [hparts]; rfl
  all_goals rw [hparts]

/-! ## A whole frame -/

/-- From idle pins a frame sends its word, and the target reacts to the number of latched edges. -/
theorem performAll_frame (s : State) (w : Word) {n : Nat} (h0 : 0 < n) (h : n < 16) (hclk : s.clk = false)
    (hlat : s.lat = false) :
    s.performAll (wordBits w n ++ [.latchLow])
      = { ({ s with target := s.target.sendWord w n } : State).latchFall with
          dout := w.getLsbD 0, clk := false, lat := false
          trace := s.trace ++ traced (asEvents false (wordBits w n ++ [.latchLow]))
          upc := s.upc + 50, ports := s.ports.drop 50 } := by
  have hbits := performAll_wordBits s w h0 h hclk hlat
  obtain ⟨htarget, hdraws⟩ := latchFall_congr (s.performAll (wordBits w n))
    { s with target := s.target.sendWord w n } (by rw [hbits]) (by rw [hbits])
  rw [show s.performAll (wordBits w n ++ [.latchLow]) = (s.performAll (wordBits w n)).lowerLatch from
    performAll_append .., lowerLatch_edge _ (by rw [hbits])]
  apply State.eq_of_fields
  case hp => simp [State.pins, hbits, hclk]
  case hr => simp [State.SameRegisters, hbits]
  case h10 => simp [hbits, BitVec.add_assoc]
  case h15 => simp [hbits, traced, asEvents, Micro.event]
  case h16 => exact htarget
  case h17 => exact hdraws
  case h18 => simp [hbits]
  all_goals simp [hbits]

/-- `SEND_DATA_WORD w` from idle pins: the word is buffered (46_target_device R123). -/
theorem performAll_dataWord (s : State) (w : Word) (hclk : s.clk = false) (hlat : s.lat = false) :
    s.performAll (dataWordEvents w)
      = { s with
          dout := w.getLsbD 0, clk := false, lat := false
          target := { s.target.sendWord w 1 with buf := pushWord s.target.buf w }
          trace := s.trace ++ traced (asEvents false (dataWordEvents w))
          upc := s.upc + 50, ports := s.ports.drop 50 } :=
  performAll_frame s w (n := 1) (by decide) (by decide) hclk hlat

/-- `SEND_GLOBAL_WORD w` from idle pins: the word is buffered and the buffers are committed (46_target_device R123). -/
theorem performAll_globalWord (s : State) (w : Word) (hclk : s.clk = false) (hlat : s.lat = false) :
    s.performAll (globalWordEvents w)
      = { s with
          dout := w.getLsbD 0, clk := false, lat := false
          target := { s.target.sendWord w 3 with
            buf := pushWord s.target.buf w, out := pushWord s.target.buf w }
          trace := s.trace ++ traced (asEvents false (globalWordEvents w))
          upc := s.upc + 50, ports := s.ports.drop 50 } :=
  performAll_frame s w (n := 3) (by decide) (by decide) hclk hlat

theorem pushed_pushWord (buf : Words) (w : Word) : Pushed buf (pushWord buf w) w := by
  refine ⟨fun j h => ?_, ?_⟩ <;> simp [pushWord, *]

/-- What every routine has in common, of a state that differs only in what a routine writes (40_primitives R63). -/
theorem routineDone_of_fields (s : State) (d : Bool) (u : Target) (l : List Event) :
    RoutineDone s
      { s with
        dout := d, clk := false, lat := false, target := u, trace := s.trace ++ traced l
        upc := s.upc + BitVec.ofNat 10 l.length, ports := s.ports.drop l.length } d l :=
  ⟨rfl, rfl, rfl, rfl, ⟨rfl, rfl, rfl, rfl, rfl, rfl, rfl, rfl⟩, rfl⟩

end Sys2Proof.Machine

open Sys2Proof Sys2Proof.Machine Sys2Proof.Claims

/-- Settles O28: the closed form of the frame, field by field. -/
theorem sendDataWordCompletes : Obligations.SendDataWordCompletes := by
  intro w s hclk hlat
  exact ⟨_, congrArg Host.Outcome.next (performAll_dataWord s w hclk hlat),
    routineDone_of_fields s _ _ ((List.range 50).map (dataWordAt w)), rfl, rfl, rfl, rfl,
    pushed_pushWord _ _, rfl, rfl, rfl, ⟨rfl, rfl⟩⟩

/-- Settles O29: the closed form of the frame, field by field. -/
theorem sendGlobalWordCompletes : Obligations.SendGlobalWordCompletes := by
  intro w s hclk hlat
  exact ⟨_, congrArg Host.Outcome.next (performAll_globalWord s w hclk hlat),
    routineDone_of_fields s _ _ ((List.range 50).map (globalWordAt w)), rfl, rfl, rfl, rfl,
    pushed_pushWord _ _, rfl, rfl, rfl, ⟨rfl, rfl⟩⟩
end

section
/-! PROOFS. `UPDATE` as a whole: its sixteen frames replace the buffers, the live outputs wait for the last event, and
the steps of an accepted `UPDATE` perform its events. -/

namespace Sys2Proof.Machine

open Sys2Proof.Claims

/-! ## Words pushed one after another -/

theorem toList_pushWord (buf : Words) (w : Word) : (pushWord buf w).toList = buf.toList.drop 1 ++ [w] := by
  refine List.ext_getElem (by simp) fun j hj hj' => ?_
  have hj16 : j < 16 := by simpa using hj
  by_cases h : j + 1 < 16
  · simp [pushWord, h, List.getElem_append]
    omega
  · simp [pushWord, h, List.getElem_append]
    omega

/-- Each word pushed drives out one entry from the front. -/
theorem toList_foldl_pushWord (buf : Words) (l : List Word) :
    (l.foldl pushWord buf).toList = (buf.toList ++ l).drop l.length := by
  induction l generalizing buf with
  | nil => simp
  | cons w l ih =>
    have hpush : (pushWord buf w).toList ++ l = (buf.toList ++ w :: l).drop 1 := by
      rw [toList_pushWord, List.append_assoc, List.drop_append_of_le_length (by simp)]
      rfl
    rw [List.foldl_cons, ih, hpush, List.drop_drop, List.length_cons, Nat.add_comm]

/-- Sixteen words replace all buffers. -/
theorem foldl_pushWord_eq (buf ws : Words) : ws.toList.foldl pushWord buf = ws := by
  rw [← Vector.toList_inj, toList_foldl_pushWord, List.drop_left' (by simp)]

/-! ## The frames of `UPDATE` -/

/-- The indices of the data words, all but the last (41_grayscale_update R82). -/
def dataIndices : List (Fin 16) := (List.finRange 15).map Fin.castSucc

theorem finRange_eq : List.finRange 16 = dataIndices ++ [15] := rfl

theorem lt_of_mem_dataIndices {k : Fin 16} (h : k ∈ dataIndices) : k.val < 15 := by
  obtain ⟨j, -, rfl⟩ := List.mem_map.1 h
  exact j.isLt

/-- `UPDATE` is the frames of fifteen data words and of the global word. -/
theorem updateEvents_eq (ws : Words) :
    updateEvents ws = dataIndices.flatMap (wordEvents ws) ++ globalWordEvents (memRead ws 15) := by
  rw [updateEvents, finRange_eq, List.flatMap_append]
  rfl

theorem map_memRead (ws : Words) : (List.finRange 16).map (memRead ws) = ws.toList := by
  refine List.ext_getElem (by simp) fun j hj hj' => ?_
  simp [memRead]

/-- `t` is reached from `s` by sending the data words `l`: the pins are idle and the words buffered. -/
structure State.Buffered (s t : State) (l : List Word) : Prop where
  clk : t.clk = false
  lat : t.lat = false
  buf : t.target.buf = l.foldl pushWord s.target.buf
  cfg : t.target.cfg = s.target.cfg
  errstat : t.target.errstat = s.target.errstat

theorem performAll_dataWords (s : State) (ws : Words) (ks : List (Fin 16)) (hks : ∀ k ∈ ks, k.val < 15)
    (hclk : s.clk = false) (hlat : s.lat = false) :
    s.Buffered (s.performAll (ks.flatMap (wordEvents ws))) (ks.map (memRead ws)) := by
  induction ks generalizing s with
  | nil => exact ⟨hclk, hlat, rfl, rfl, rfl⟩
  | cons k ks ih =>
    rw [List.forall_mem_cons] at hks
    have hframe : wordEvents ws k = dataWordEvents (memRead ws k) := if_pos hks.1
    have hword := performAll_dataWord s (memRead ws k) hclk hlat
    obtain ⟨hclk', hlat', hbuf, hcfg, herrstat⟩ :=
      ih (s.performAll (dataWordEvents (memRead ws k))) hks.2 (by rw [hword]) (by rw [hword])
    rw [List.flatMap_cons, performAll_append, hframe]
    exact ⟨hclk', hlat', hbuf.trans (by rw [hword]; rfl), hcfg.trans (by rw [hword]; rfl),
      herrstat.trans (by rw [hword]; rfl)⟩

/-- The events of `UPDATE` from idle pins: `t` has the sixteen words in the buffers and at the outputs. -/
structure State.Committed (s t : State) (ws : Words) : Prop where
  pins : t.pins = ⟨ws[15].getLsbD 0, false, false⟩
  buf : t.target.buf = ws
  out : t.target.out = ws
  cfg : t.target.cfg = s.target.cfg
  errstat : t.target.errstat = s.target.errstat

theorem performAll_update (s : State) (ws : Words) (hclk : s.clk = false) (hlat : s.lat = false) :
    s.Committed (s.performAll (updateEvents ws)) ws := by
  have hdata := performAll_dataWords s ws dataIndices (fun _ => lt_of_mem_dataIndices) hclk hlat
  rw [updateEvents_eq, performAll_append]
  generalize s.performAll (dataIndices.flatMap (wordEvents ws)) = t at hdata ⊢
  obtain ⟨hclk', hlat', hbuf, hcfg, herrstat⟩ := hdata
  have hws : pushWord t.target.buf (memRead ws 15) = ws := by
    rw [hbuf]
    calc pushWord ((dataIndices.map (memRead ws)).foldl pushWord s.target.buf) (memRead ws 15)
      _ = ((List.finRange 16).map (memRead ws)).foldl pushWord s.target.buf := by
        rw [finRange_eq, List.map_append, List.foldl_append]
        rfl
      _ = ws := by rw [map_memRead, foldl_pushWord_eq]
  rw [performAll_globalWord t _ hclk' hlat']
  exact ⟨rfl, hws, hws, hcfg, herrstat⟩

/-! ## The live outputs before the last event -/

theorem State.Tracks.performAll {s : State} {k : Scan} (h : s.Tracks k) (l : List Micro) :
    (s.performAll l).Tracks (k.feedAll false l) := by
  induction l generalizing s k with
  | nil => exact h
  | cons m l ih => exact ih (h.perform m)

theorem sigs_prefix (dout b : Bool) (l r : List Micro) :
    sigs dout (asEvents b l) <+: sigs dout (asEvents b (l ++ r)) := by
  rw [sigs, sigs, scan_idle, scan_idle, Scan.feedAll_append]
  exact (feedAll_intervals_prefix _ b r).map Prod.fst

/-- From idle pins, events without the signature 3 leave the live outputs alone (46_target_device R123). -/
theorem performAll_out_of_sigs {s : State} {l : List Micro} (hclk : s.clk = false) (hlat : s.lat = false)
    (h3 : 3 ∉ sigs s.dout (asEvents false l)) : (s.performAll l).target.out = s.target.out := by
  induction l using List.reverseRecOn with
  | nil => rfl
  | append_singleton l m ih =>
    have hout := ih fun h => h3 ((sigs_prefix _ _ l [m]).subset h)
    have htracks : (s.performAll l).Tracks (scan (.idle s.dout) (asEvents false l)) :=
      State.Tracks.performAll ⟨hclk, hlat, by simp [hlat]⟩ l
    have hno : ¬ (m = .latchLow ∧ (s.performAll l).lat = true ∧ (s.performAll l).target.lcnt = 3) := by
      rintro ⟨rfl, hlat', hcount⟩
      have hmem := rising_mem_sigs (dout := s.dout) (b := false) (l := l ++ [.latchLow]) (n := l.length) (by simp)
        (by simpa [← htracks.lat] using hlat')
      rw [List.take_left, ← htracks.count hlat', hcount] at hmem
      exact h3 hmem
    rw [performAll_append, performAll_cons, performAll_nil, perform_out, if_neg hno, hout]

/-- The last event of `UPDATE` is the LATCH fall of the global word. -/
theorem updateEvents_eq_concat (ws : Words) :
    updateEvents ws = dataIndices.flatMap (wordEvents ws) ++ wordBits (memRead ws 15) 3 ++ [.latchLow] := by
  rw [updateEvents_eq, List.append_assoc]
  rfl

/-- The signature 3 of `UPDATE` stands only once its last event has been performed. -/
theorem not_mem_sigs_update_take (ws : Words) (dout : Bool) {j : Nat} (hj : j < 800) :
    3 ∉ sigs dout (asEvents false ((updateEvents ws).take j)) := by
  have hbefore : sigs dout (asEvents false (dataIndices.flatMap (wordEvents ws) ++ wordBits (memRead ws 15) 3))
      = dataIndices.map latchedEdges := by
    obtain ⟨d, r, f, h⟩ := feedAll_words dout 0 0 [] [] false ws dataIndices
    rw [sigs, scan_idle, Scan.feedAll_append, h]
    simp [wordBits, Function.comp_def]
  have hlen := congrArg List.length (updateEvents_eq_concat ws)
  rw [length_updateEvents, List.length_append, List.length_singleton] at hlen
  intro hmem
  have hprefix : (updateEvents ws).take j
      <+: dataIndices.flatMap (wordEvents ws) ++ wordBits (memRead ws 15) 3 := by
    rw [updateEvents_eq_concat, List.take_append_of_le_length (by omega)]
    exact List.take_prefix _ _
  obtain ⟨r, hr⟩ := hprefix
  have h3 := (sigs_prefix dout false _ r).subset hmem
  rw [hr, hbefore] at h3
  exact absurd h3 (by decide)

/-- Before the last event of `UPDATE` the live outputs are as they were. -/
theorem performAll_update_take_out {s : State} (ws : Words) (hclk : s.clk = false) (hlat : s.lat = false) {j : Nat}
    (hj : j < 800) : (s.performAll ((updateEvents ws).take j)).target.out = s.target.out :=
  performAll_out_of_sigs hclk hlat (not_mem_sigs_update_take ws s.dout hj)

/-! ## The steps of an accepted command -/

@[simp] theorem performAll_events (s : State) (l : List Micro) : (s.performAll l).events = s.events := by
  obtain ⟨-, -, hop, hwords, hcfg, -⟩ := performAll_sameRegisters s l
  simp only [State.events, hop, hwords, hcfg]

/-- A command without samples, after as many steps as events have been performed, none of them the last. -/
theorem run_take {s : State} {l : List Micro} {j : Nat} (hev : s.events = l) (hb : s.busy = true) (hu : s.upc = 0)
    (hj : j < l.length) (hr : s.NoReset j) (hno : .readDataIn ∉ l) : run j s = .next (s.performAll (l.take j)) := by
  have hlen : (l.take j).length = j := List.length_take_of_le hj.le
  have hle : l.length ≤ 800 := hev ▸ length_eventList_le _ _ _
  obtain rfl | hpos := Nat.eq_zero_or_pos j
  · rfl
  · have hrun := run_performs_no_sample (l := l.take j) (rest := l.drop j) hb (by rwa [hlen]) (by simp [hu, hev])
      (List.ne_nil_of_length_pos (by omega)) fun h => hno (List.mem_of_mem_take h)
    rw [hlen] at hrun
    rw [hrun, completeIfDone_of_lt]
    rw [performAll_events, performAll_upc, hu, hlen, hev]
    simp
    omega

/-- A command without samples, after all its steps. -/
theorem run_all {s : State} {l : List Micro} (hev : s.events = l) (hb : s.busy = true) (hu : s.upc = 0)
    (hne : l ≠ []) (hr : s.NoReset l.length) (hno : .readDataIn ∉ l) :
    run l.length s = .next (s.performAll l).flagsAtCompletion := by
  have hle : l.length ≤ 800 := hev ▸ length_eventList_le _ _ _
  rw [run_performs_no_sample (rest := []) hb hr (by simp [hu, hev]) hne hno, State.completeIfDone, if_pos]
  rw [performAll_events, performAll_upc, hu, hev]
  simp
  omega

/-- Completion of `UPDATE` writes BUSY alone (45_init_and_command_port R110). -/
theorem flagsAtCompletion_update {s : State} (h : s.op = 0b001#3) : s.flagsAtCompletion = { s with busy := false } := by
  simp [State.flagsAtCompletion, State.resultAtCompletion, h]

/-- `s` with the `UPDATE` at its port accepted (45_init_and_command_port R117). -/
def State.acceptUpdate (s : State) : State :=
  { s with words := unpackWords s.port.cmdWords }.accept 0b001#3

theorem step_acceptUpdate {s : State} (hr : s.port.rst = false) (hb : s.busy = false) (hi : s.initd = true)
    (hp : Presents s 0b001#3) : step s = .next s.acceptUpdate := by
  obtain ⟨hvalid, hop⟩ := hp
  rw [step, fetch_command hr hb hvalid, hop]
  exact present_accepts s _ _ hb fun _ => hi

theorem acceptUpdate_events (s : State) : s.acceptUpdate.events = updateEvents (unpackWords s.port.cmdWords) := rfl

theorem run_succ {s t : State} (h : step s = .next t) (n : Nat) : run (n + 1) s = run n t := by
  rw [run, h]

theorem State.NoReset.mono {s : State} {m n : Nat} (h : s.NoReset n) (hmn : m ≤ n) : s.NoReset m :=
  fun p hp => h p ((List.take_prefix_take_left hmn).subset hp)

/-- `UPDATE` after its acceptance and `j` of its events, none of them the last. -/
theorem run_update_take {s : State} {j : Nat} (hb : s.busy = false) (hi : s.initd = true) (hp : Presents s 0b001#3)
    (hr : s.NoReset (j + 1)) (hj : j < 800) :
    run (j + 1) s = .next (s.acceptUpdate.performAll ((updateEvents (unpackWords s.port.cmdWords)).take j)) := by
  rw [run_succ (step_acceptUpdate hr.port hb hi hp)]
  exact run_take rfl rfl rfl (by rwa [length_updateEvents]) (hr.tail rfl) (readDataIn_not_mem_update _)

/-- `UPDATE` after all its events. -/
theorem run_update {s : State} (hb : s.busy = false) (hi : s.initd = true) (hp : Presents s 0b001#3)
    (hr : s.NoReset 801) :
    run 801 s
      = .next { s.acceptUpdate.performAll (updateEvents (unpackWords s.port.cmdWords)) with busy := false } := by
  have hlen := length_updateEvents (unpackWords s.port.cmdWords)
  have hrun := run_all (acceptUpdate_events s) rfl rfl (List.ne_nil_of_length_pos (by omega))
    (by rw [hlen]; exact hr.tail rfl) (readDataIn_not_mem_update _)
  obtain ⟨-, -, hop, -⟩ :=
    performAll_sameRegisters s.acceptUpdate (updateEvents (unpackWords s.port.cmdWords))
  rw [hlen, flagsAtCompletion_update hop] at hrun
  rw [run_succ (step_acceptUpdate hr.port hb hi hp), hrun]

/-- Up to the last of its events `UPDATE` leaves the live outputs alone (41_grayscale_update R80). -/
theorem run_update_out {s : State} {n : Nat} (hs : s.Idle) (hi : s.initd = true) (hp : Presents s 0b001#3)
    (hr : s.NoReset n) (hn : n ≤ 800) : ∃ u, run n s = .next u ∧ u.target.out = s.target.out := by
  obtain ⟨hb, hclk, hlat⟩ := hs
  cases n with
  | zero => exact ⟨s, rfl, rfl⟩
  | succ j =>
    exact ⟨_, run_update_take hb hi hp hr hn, performAll_update_take_out (s := s.acceptUpdate) _ hclk hlat hn⟩

end Sys2Proof.Machine

open Sys2Proof Sys2Proof.Machine Sys2Proof.Claims

/-- Settles O44: the step of acceptance, then the 800 events, which commit the words; the live outputs wait for the last
of them. -/
theorem updateCommitsAllWords : Obligations.UpdateCommitsAllWords := by
  intro s hidle hinitd hpresents hreset
  obtain ⟨hb, hclk, hlat⟩ := hidle
  generalize hws : unpackWords s.port.cmdWords = ws
  have hword : ∀ k, ∀ h : k < 16, ∀ i < 16, ws[k].getLsbD i = s.port.cmdWords.getLsbD (16 * k + i) :=
    fun k hk i hi => hws ▸ getLsbD_unpackWords s.port.cmdWords k i hk hi
  have hrun := run_update hb hinitd hpresents hreset
  have htrace := performAll_traced s.acceptUpdate false (readDataIn_not_mem_update ws)
  have hsame := performAll_sameRegisters s.acceptUpdate (updateEvents ws)
  have hcommit := performAll_update s.acceptUpdate ws hclk hlat
  rw [hws] at hrun
  rw [← hws, asEvents_update_eq_range, hws] at htrace
  generalize s.acceptUpdate.performAll (updateEvents ws) = t at hrun htrace hsame hcommit
  obtain ⟨hinitd', -, -, -, -, hrsp, -⟩ := hsame
  obtain ⟨hpins, hbuf, hout, hcfg, herrstat⟩ := hcommit
  rw [State.pins, Pins.mk.injEq] at hpins
  obtain ⟨hdout', hclk', hlat'⟩ := hpins
  refine ⟨_, hrun, ⟨rfl, hclk', hlat'⟩, hinitd'.trans hinitd, hrsp, ?outputs, hbuf.trans hout.symm, ?before, ?level,
    hcfg, herrstat, htrace⟩
  case outputs =>
    intro k hk i hi
    rw [← hword k hk i hi, hout]
  case before =>
    exact fun n hn => run_update_out ⟨hb, hclk, hlat⟩ hinitd hpresents (hreset.mono (by omega)) hn
  case level => exact hdout'.trans (hword 15 (by decide) 0 (by decide))
end

section
/-! PROOFS. The frames that hold DATA_OUT and latch each of their edges: their closed form, and from it `EN_ERR_DET` and
`PREP_ERR`. -/

namespace Sys2Proof.Machine

open Sys2Proof.Claims

/-- LATCH raised, `n` pulses and the end of a hold: the frame of `n + 1` latched edges (30_encoding R51). -/
def holdEvents (n : Nat) : List Micro := [.latchHigh] ++ pulsesEvents n ++ holdEndEvents

/-- The target once LATCH has risen and `n` latched edges have shown the level `b` (46_target_device R121, R122). -/
def Target.hold (t : Target) (b : Bool) (n : Nat) : Target :=
  { t with
    tsr := (List.replicate n b).foldl shiftIn t.tsr, lcnt := n
    rb := t.rb <<< min t.rbn.val n, rbn := ⟨t.rbn.val - n, by omega⟩ }

/-- The target sees LATCH rise and then `n` latched edges. -/
theorem foldl_clockRise_replicate (t : Target) (b : Bool) (n : Nat) :
    (List.replicate n b).foldl (fun t b => t.clockRise b true) { t with lcnt := 0 } = t.hold b n := by
  rw [foldl_clockRise]
  simp [Target.hold]

/-- One more edge before LATCH falls. -/
theorem clockRise_hold (t : Target) (b : Bool) (n : Nat) : (t.hold b n).clockRise b true = t.hold b (n + 1) := by
  rw [← foldl_clockRise_replicate, ← foldl_clockRise_replicate, List.replicate_succ', List.foldl_concat]

/-- From idle pins LATCH is raised and DATA_OUT shown at `n` latched edges. -/
theorem performAll_latchedPulses (s : State) (n : Nat) (hclk : s.clk = false) (hlat : s.lat = false) :
    s.performAll ([.latchHigh] ++ pulsesEvents n)
      = { s with
          lat := true
          target := s.target.hold s.dout n
          trace := s.trace ++ traced (asEvents false ([.latchHigh] ++ pulsesEvents n))
          upc := s.upc + BitVec.ofNat 10 (2 * n + 1), ports := s.ports.drop (2 * n + 1) } := by
  rw [show s.performAll ([.latchHigh] ++ pulsesEvents n) = s.raiseLatch.performAll (pulsesEvents n) from rfl,
    raiseLatch_edge s hlat, performAll_pulses _ _ (by exact hclk)]
  simp only [foldl_clockRise_replicate]
  simp [traced, asEvents, Micro.event, BitVec.ofNat_add, BitVec.add_assoc, BitVec.add_comm 1#10]

/-- From idle pins the frame shows DATA_OUT at `n + 1` latched edges, and the target reacts to their number. -/
theorem performAll_holdEvents (s : State) (n : Nat) (hclk : s.clk = false) (hlat : s.lat = false) :
    s.performAll (holdEvents n)
      = { ({ s with target := s.target.hold s.dout (n + 1) } : State).latchFall with
          clk := false, lat := false
          trace := s.trace ++ traced (asEvents false (holdEvents n))
          upc := s.upc + BitVec.ofNat 10 (2 * n + 4), ports := s.ports.drop (2 * n + 4) } := by
  have hpulses := performAll_latchedPulses s n hclk hlat
  rw [holdEvents, performAll_append]
  generalize s.performAll ([.latchHigh] ++ pulsesEvents n) = t at hpulses ⊢
  obtain ⟨htarget, hdraws⟩ := latchFall_congr { t with target := t.target.clockRise t.dout true }
    { s with target := s.target.hold s.dout (n + 1) } (by simp [hpulses, clockRise_hold]) (by rw [hpulses])
  rw [performAll_holdEnd t (by rw [hpulses]; exact hclk) (by rw [hpulses])]
  apply State.eq_of_fields
  case hp => simp [State.pins, hpulses]
  case hr => simp [State.SameRegisters, hpulses]
  case h10 => simp [hpulses, BitVec.ofNat_add, BitVec.add_assoc]
  case h15 => simp [hpulses, traced, asEvents, holdEndEvents, Micro.event]
  case h16 => exact htarget
  case h17 => exact hdraws
  all_goals simp [hpulses]

/-- `EN_ERR_DET` from idle pins: the error status is drawn (46_target_device R124). -/
theorem performAll_enErrDet (s : State) (hclk : s.clk = false) (hlat : s.lat = false) :
    s.performAll enErrDetEvents
      = { s with
          clk := false, lat := false
          target := { s.target.hold s.dout 6 with errstat := Config.freeWord s.draws }, draws := s.draws + 1
          trace := s.trace ++ traced enErrDetList
          upc := s.upc + 14, ports := s.ports.drop 14 } :=
  performAll_holdEvents s 5 hclk hlat

/-- `PREP_ERR` from idle pins: the error status is selected for reading (46_target_device R124). -/
theorem performAll_prepErr (s : State) (hclk : s.clk = false) (hlat : s.lat = false) :
    s.performAll prepErrEvents
      = { s with
          clk := false, lat := false
          target := { s.target.hold s.dout 9 with rb := s.target.errstat, rbn := 16 }
          trace := s.trace ++ traced prepErrList
          upc := s.upc + 20, ports := s.ports.drop 20 } :=
  performAll_holdEvents s 8 hclk hlat

end Sys2Proof.Machine

open Sys2Proof Sys2Proof.Machine Sys2Proof.Claims

/-- Settles O32: the closed forms of the two frames, field by field. -/
theorem errorPrepareCompletes : Obligations.ErrorPrepareCompletes := by
  refine fun s hclk hlat => ⟨⟨_, congrArg Host.Outcome.next (performAll_enErrDet s hclk hlat), ?enErrDet⟩,
    ⟨_, congrArg Host.Outcome.next (performAll_prepErr s hclk hlat), ?prepErr⟩⟩
  case enErrDet =>
    exact ⟨⟨rfl, rfl, rfl, rfl, ⟨rfl, rfl, rfl, rfl, rfl, rfl, rfl, rfl⟩, rfl⟩, rfl, rfl, rfl,
      filled_foldl_replicate _ _ _, rfl, ⟨rfl, rfl⟩, rfl, rfl, rfl⟩
  case prepErr =>
    exact ⟨routineDone_of_fields s s.dout _ prepErrList, rfl, rfl, filled_foldl_replicate _ _ _, rfl, rfl, rfl, rfl, rfl,
      rfl, rfl⟩
end

section
/-! PROOFS. `READ_REG` inside the readback window: each sample is the next bit of RB, and no free value is used. -/

namespace Sys2Proof.Machine

open Sys2Proof.Claims

theorem mem_take_of_mem_take_drop {α : Type} {l : List α} {m n : Nat} {p : α} (h : p ∈ (l.drop m).take n) :
    p ∈ l.take (m + n) := by
  rw [List.take_drop] at h
  exact List.mem_of_mem_drop h

/-- Where the target drives DATA_IN, it does so after some steps too. -/
theorem targetDrives_drop {s t : State} {m n : Nat} (h : TargetDrives s (m + n)) (ht : t.ports = s.ports.drop m) :
    TargetDrives t n :=
  fun p hp => h p (mem_take_of_mem_take_drop (ht ▸ hp))

theorem dataIn_of_targetDrives {s : State} {n : Nat} (h : TargetDrives s (n + 1)) : s.port.dataIn = none := by
  unfold State.port
  cases hp : s.ports with
  | nil => rfl
  | cons p ps => exact h p (by simp [hp])

/-- A readback begun with the whole of RB still to be presented and the target driving the line
(42_error_report_read R94). -/
structure State.InWindow (s : State) : Prop where
  clk : s.clk = false
  rbn : s.target.rbn.val = 16
  drives : TargetDrives s 46

/-- After `j` rounds RB has moved up by `j` places, and `j` bits fewer are still to be presented. -/
theorem State.InWindow.readback {s : State} (h : s.InWindow) (j : Nat) :
    (s.performAll (readRounds j)).target.rb = s.target.rb <<< min 16 j
      ∧ (s.performAll (readRounds j)).target.rbn.val = 16 - j := by
  rw [(performAll_readRounds s j h.clk).target, foldl_clockRise]
  simp only [h.rbn, List.length_replicate, and_self]

theorem State.InWindow.rbn_pos {s : State} (h : s.InWindow) {j : Nat} (hj : j < 16) :
    0 < (s.performAll (readRounds j)).target.rbn.val := by
  rw [(h.readback j).2]
  omega

/-- Sample `j` of the readback is bit `15 - j` of RB (46_target_device R126). -/
theorem State.InWindow.readBit {s : State} (h : s.InWindow) {j : Nat} (hj : j < 16) :
    s.readBit j = s.target.rb.getLsbD (15 - j) := by
  have hdrives : TargetDrives (s.performAll (readRounds j)) (46 - 3 * j - 1 + 1) :=
    targetDrives_drop (m := 3 * j) (by convert h.drives using 1; omega) (by simp)
  rw [State.readBit, dataInLevel_of_window (dataIn_of_targetDrives hdrives) (h.rbn_pos hj), (h.readback j).1,
    Nat.min_eq_right hj.le, BitVec.getLsbD_shiftLeft, decide_eq_false (show ¬ 15 < j by omega)]
  rfl

/-- The samples of the readback are RB, most significant bit first. -/
theorem State.InWindow.rxv {s : State} (h : s.InWindow) : (s.performAll readRegEvents).rxv = s.target.rb := by
  have hbits : (List.range 16).map s.readBit = bitsDown s.target.rb 15 0 :=
    List.map_congr_left fun j hj => h.readBit (List.mem_range.1 hj)
  rw [readReg_rxv s h.clk, hbits, foldl_shiftIn_full _ _ (by simp), assemble_bitsDown]

/-- A readback of one more round. -/
theorem performAll_readRounds_succ (s : State) (n : Nat) :
    s.performAll (readRounds (n + 1)) = (s.performAll (readRounds n)).performAll (.readDataIn :: pulseEvents) := by
  rw [← performAll_append, readRounds, List.replicate_succ', List.flatten_concat, readRounds]

/-- None of the sixteen samples is taken of a free line, so none uses a free value. -/
theorem State.InWindow.sampleDataIn_draws {s : State} (h : s.InWindow) {j : Nat} (hj : j < 16) :
    (s.performAll (readRounds j)).sampleDataIn.draws = (s.performAll (readRounds j)).draws := by
  rw [State.sampleDataIn_draws, if_neg]
  rw [lineFree_iff]
  exact fun hfree => (h.rbn_pos hj).ne' hfree.2

theorem State.InWindow.draws_readRounds {s : State} (h : s.InWindow) {n : Nat} (hn : n ≤ 16) :
    (s.performAll (readRounds n)).draws = s.draws := by
  induction n with
  | zero => rfl
  | succ n ih =>
    have hpins := (performAll_readRounds s n h.clk).pins
    rw [performAll_readRounds_succ, performAll_round _ ((congrArg Pins.clk hpins).trans h.clk)]
    exact (h.sampleDataIn_draws hn).trans (ih (by omega))

theorem State.InWindow.draws {s : State} (h : s.InWindow) : (s.performAll readRegEvents).draws = s.draws := by
  rw [performAll_readRegEvents, h.sampleDataIn_draws (by decide), h.draws_readRounds (by decide)]

end Sys2Proof.Machine

open Sys2Proof Sys2Proof.Machine Sys2Proof.Claims

/-- Settles O34: RXV takes the samples, which are the bits of RB; fifteen of the sixteen CLOCK rising edges of a whole
window pass. -/
theorem readRegReturnsReadback : Obligations.ReadRegReturnsReadback := by
  intro s hclk hlat hrbn hdrives
  have hwindow : s.clearRxv.InWindow := ⟨hclk, congrArg Fin.val hrbn, hdrives⟩
  refine ⟨s.clearRxv.performAll readRegEvents, rfl, hwindow.rxv, ?rbn, hwindow.draws⟩
  case rbn =>
    rw [performAll_readRegEvents, State.sampleDataIn_target]
    exact Fin.ext (hwindow.readback 15).2
end

section
/-! PROOFS. `RDERR` as a whole: the frames that draw and select the error status, then `READ_REG`, and the response at
completion. -/

namespace Sys2Proof.Machine

open Sys2Proof.Claims

/-! ## Steps one after another -/

theorem run_add {s t : State} {m : Nat} (h : run m s = .next t) (n : Nat) : run (m + n) s = run n t := by
  induction m generalizing s with
  | zero =>
    obtain rfl : s = t := by simpa [run] using h
    rw [Nat.zero_add]
  | succ m ih =>
    rw [Nat.add_right_comm, run]
    rw [run] at h
    cases hs : step s with
    | next u => rw [hs] at h; exact ih h
    | fault r => simp [hs] at h
    | refused r => simp [hs] at h

theorem State.NoReset.drop {s t : State} {m n : Nat} (h : s.NoReset (m + n)) (ht : t.ports = s.ports.drop m) :
    t.NoReset n :=
  fun p hp => h p (mem_take_of_mem_take_drop (ht ▸ hp))

/-- UPC counts the events of a list, as long as it does not wrap around. -/
theorem performAll_upc_toNat {s : State} {l : List Micro} (h : s.upc.toNat + l.length < 1024) :
    (s.performAll l).upc.toNat = s.upc.toNat + l.length := by
  rw [performAll_upc, BitVec.toNat_add, BitVec.toNat_ofNat]
  omega

/-- The steps of a command that ends with `READ_REG`: the events before it, then `READ_REG` from a cleared RXV, and
completion. -/
theorem run_reading {s : State} {p : List Micro} (hev : s.events = p ++ readRegEvents) (hb : s.busy = true)
    (hu : s.upc = 0) (hne : p ≠ []) (hno : .readDataIn ∉ p) (hr : s.NoReset (p.length + 46)) :
    run (p.length + 46) s = .next ((s.performAll p).clearRxv.performAll readRegEvents).flagsAtCompletion := by
  have hlen : s.events.length = p.length + 46 := by rw [hev, List.length_append, length_readRegEvents]
  have hle : s.events.length ≤ 800 := length_eventList_le _ _ _
  have hu' : s.upc.toNat = 0 := by rw [hu]; rfl
  have hupc : (s.performAll p).upc.toNat = p.length := by
    rw [performAll_upc_toNat (by omega), hu', Nat.zero_add]
  have hprefix : run p.length s = .next (s.performAll p) := by
    rw [run_performs_no_sample hb (hr.mono (by omega)) (by rw [hu', hev]; rfl) hne hno, completeIfDone_of_lt]
    rw [hupc, performAll_events]
    omega
  obtain ⟨-, hbusy, -⟩ := performAll_sameRegisters s p
  have hread := run_performs_readReg (s := s.performAll p) (rest := []) (hbusy.trans hb)
    (hr.drop (performAll_ports s p)) (by rw [hupc, performAll_events, hev, List.drop_left, List.append_nil])
  rw [run_add hprefix]
  refine hread.trans (congrArg Host.Outcome.next (if_pos ?_))
  have hclear : (s.performAll p).clearRxv.upc.toNat = p.length := hupc
  have hevents : (s.performAll p).clearRxv.events = s.events := performAll_events s p
  rw [performAll_upc_toNat (by rw [hclear, length_readRegEvents]; omega), performAll_events, hclear, hevents, hlen,
    length_readRegEvents]

/-! ## `RDERR` -/

/-- `t` is reached from `s` by the events of `RDERR` before `READ_REG`: the pins are idle, the error status is the free
value drawn and is selected for reading (46_target_device R124). -/
structure State.ErrSelected (s t : State) : Prop where
  pins : t.pins = ⟨s.dout, false, false⟩
  trace : t.trace = s.trace ++ traced (enErrDetList ++ [.w] ++ prepErrList)
  errstat : t.target.errstat = Config.freeWord s.draws
  rb : t.target.rb = t.target.errstat
  rbn : t.target.rbn = 16
  buf : t.target.buf = s.target.buf
  out : t.target.out = s.target.out
  cfg : t.target.cfg = s.target.cfg

theorem performAll_errPrefix (s : State) (hclk : s.clk = false) (hlat : s.lat = false) :
    s.ErrSelected (s.performAll errPrefix) := by
  have htrace := performAll_traced s false readDataIn_not_mem_errPrefix
  rw [errPrefix, performAll_append, performAll_append, performAll_enErrDet s hclk hlat, performAll_cons,
    performAll_nil, performAll_prepErr _ rfl rfl] at htrace ⊢
  exact ⟨rfl, htrace, rfl, rfl, rfl, rfl, rfl, rfl⟩

/-- Completion of `RDERR` delivers RXV as an error report (45_init_and_command_port R110). -/
theorem flagsAtCompletion_rderr {s : State} (h : s.op = 0b010#3) :
    s.flagsAtCompletion = { s.respond false with busy := false } := by
  simp [State.flagsAtCompletion, State.resultAtCompletion, h]

theorem step_acceptRderr {s : State} (hr : s.port.rst = false) (hb : s.busy = false) (hi : s.initd = true)
    (hp : Presents s 0b010#3) : step s = .next (s.accept 0b010#3) := by
  obtain ⟨hvalid, hop⟩ := hp
  rw [step, fetch_command hr hb hvalid, hop]
  exact present_accepts s s _ hb fun _ => hi

end Sys2Proof.Machine

open Sys2Proof Sys2Proof.Machine Sys2Proof.Claims

/-- Settles O46: acceptance, then the events; the samples of `READ_REG` are the response, and the error status selected
for reading is the one the command drew. -/
theorem rderrReturnsSamples : Obligations.RderrReturnsSamples := by
  intro s hidle hinitd hpresents hreset
  obtain ⟨hb, hclk, hlat⟩ := hidle
  have hrun := run_reading (s := s.accept 0b010#3) rfl rfl rfl (by decide) readDataIn_not_mem_errPrefix
    (State.NoReset.tail (s := s) hreset rfl)
  have hselected := performAll_errPrefix (s.accept 0b010#3) hclk hlat
  have hports := performAll_ports (s.accept 0b010#3) errPrefix
  obtain ⟨-, -, hop, -⟩ := performAll_sameRegisters (s.accept 0b010#3) errPrefix
  generalize (s.accept 0b010#3).performAll errPrefix = u at hrun hselected hports hop
  obtain ⟨hpins, htrace, herrstat, hrb, hrbn, hbuf, hout, hcfg⟩ := hselected
  rw [State.pins, Pins.mk.injEq] at hpins
  obtain ⟨hdout, hclk', hlat'⟩ := hpins
  obtain ⟨t, b, hexec, hdone, hbits, -, -, -, -, hbuf', hout', hcfg', herrstat'⟩ := readRegAssembles u hclk' hlat'
  obtain ⟨hpins', htrace', -, -, ⟨-, -, hop', -⟩, -⟩ := hdone
  rw [State.pins, Pins.mk.injEq] at hpins'
  obtain ⟨hdout', hclk'', hlat''⟩ := hpins'
  rw [Host.Outcome.next.inj hexec, flagsAtCompletion_rderr (hop'.trans hop),
    ← run_succ (step_acceptRderr hreset.port hb hinitd hpresents)] at hrun
  refine ⟨_, b, t.rxv, hrun, ⟨rfl, hclk'', hlat''⟩, hdout'.trans hdout, ?trace, hbits, rfl, herrstat'.trans herrstat,
    ?drives, hbuf'.trans hbuf, hout'.trans hout, hcfg'.trans hcfg⟩
  case trace =>
    calc t.trace
      _ = u.trace ++ traced (readRegList b) := htrace'
      _ = s.trace ++ traced (enErrDetList ++ [.w] ++ prepErrList ++ readRegList b) := by
        rw [htrace, State.accept_trace, List.append_assoc, traced, traced, traced, ← List.map_append]
  case drives =>
    intro hdrives
    obtain ⟨t', hexec', hrxv, -⟩ :=
      readRegReturnsReadback u hclk' hlat' hrbn (targetDrives_drop (m := 36) hdrives (hports.trans List.drop_tail))
    obtain rfl : t = t' := Host.Outcome.next.inj (hexec.symm.trans hexec')
    calc t.rxv
      _ = u.target.rb := hrxv
      _ = u.target.errstat := hrb
      _ = t.target.errstat := herrstat'.symm
end

section
/-! PROOFS. `PREP_CFG`: its unlatched pulses, then a hold of five latched edges, in closed form. -/

namespace Sys2Proof.Machine

open Sys2Proof.Claims

/-- The thermal-error bit of one word and the other bits of another, bit by bit (46_target_device R125). -/
theorem flagFrom_withFlagOf (v flag : Word) : FlagFrom v flag (withFlagOf v flag) := by
  intro i hi
  rw [withFlagOf, BitVec.getLsbD_or, BitVec.getLsbD_and, BitVec.getLsbD_and, BitVec.getLsbD_not, decide_eq_true hi]
  cases Config.thermalErrorFlag.getLsbD i <;> simp

/-- Edges before LATCH rises and the edges of a hold, all at one level of DATA_OUT: the latched ones alone are counted. -/
theorem hold_clockRises (t : Target) (b : Bool) (m n : Nat) :
    ((List.replicate m b).foldl (fun t b => t.clockRise b false) t).hold b n
      = { t.hold b (m + n) with lcnt := n } := by
  simp only [foldl_clockRise, Target.hold, List.replicate_add, List.foldl_append, List.length_replicate]
  congr 1
  · rw [← BitVec.shiftLeft_add]
    congr 1
    omega
  · simp only [Nat.sub_sub]

/-- `PREP_CFG` is eleven pulses and the frame of five latched edges (43_config_read R98). -/
theorem prepCfgEvents_eq : prepCfgEvents = pulsesEvents 11 ++ holdEvents 4 := rfl

/-- `PREP_CFG` from idle pins: the configuration register is selected for reading (46_target_device R125). -/
theorem performAll_prepCfg (s : State) (hclk : s.clk = false) (hlat : s.lat = false) :
    s.performAll prepCfgEvents
      = { s with
          clk := false, lat := false
          target := { s.target.hold s.dout 16 with
            lcnt := 5, rb := withFlagOf s.target.cfg (Config.freeWord s.draws), rbn := 16 }
          draws := s.draws + 1
          trace := s.trace ++ traced prepCfgList
          upc := s.upc + 34, ports := s.ports.drop 34 } := by
  have htrace := performAll_traced s false readDataIn_not_mem_prepCfg
  have hupc := performAll_upc s prepCfgEvents
  have hports := performAll_ports s prepCfgEvents
  have hsame := performAll_sameRegisters s prepCfgEvents
  have hparts : s.performAll prepCfgEvents = (s.performAll (pulsesEvents 11)).performAll (holdEvents 4) := by
    rw [prepCfgEvents_eq, performAll_append]
  rw [performAll_pulses s 11 hclk, performAll_holdEvents _ 4 (by exact hclk) (by exact hlat)] at hparts
  simp only [hlat, hold_clockRises] at hparts
  apply State.eq_of_fields
  case hr => exact hsame
  case h10 => exact hupc
  case h15 => exact htrace
  case h18 => exact hports
  all_goals rw [hparts]; rfl

end Sys2Proof.Machine

open Sys2Proof Sys2Proof.Machine Sys2Proof.Claims

/-- Settles O31: the closed form of the frame, field by field. -/
theorem prepCfgCompletes : Obligations.PrepCfgCompletes := by
  intro s hclk hlat
  exact ⟨_, congrArg Host.Outcome.next (performAll_prepCfg s hclk hlat),
    ⟨rfl, rfl, rfl, rfl, ⟨rfl, rfl, rfl, rfl, rfl, rfl, rfl, rfl⟩, rfl⟩, rfl, rfl,
    filled_foldl_replicate _ _ _, rfl, flagFrom_withFlagOf _ _, rfl, rfl, rfl, rfl, rfl⟩
end

section
/-! PROOFS. `RDCFG` as a whole: `PREP_CFG` selects the configuration register, `READ_REG` reads it, and the samples are
the response at completion. -/

namespace Sys2Proof.Machine

open Sys2Proof.Claims

/-- `t` is reached from `u` by `READ_REG`, which took the samples `b`: RXV is the samples, and it is RB where the window is
open and the target drives the line (42_error_report_read R94, R95). -/
structure State.ReadBack (u t : State) (b : Fin 16 → Bool) : Prop where
  pins : t.pins = ⟨u.dout, false, false⟩
  trace : t.trace = u.trace ++ traced (readRegList b)
  op : t.op = u.op
  samples : AssembledFrom b t.rxv
  window : u.target.rbn = 16 → TargetDrives u 46 → t.rxv = u.target.rb
  buf : t.target.buf = u.target.buf
  out : t.target.out = u.target.out
  cfg : t.target.cfg = u.target.cfg

theorem performAll_readReg (u : State) (hclk : u.clk = false) (hlat : u.lat = false) :
    ∃ b, u.ReadBack (u.clearRxv.performAll readRegEvents) b := by
  obtain ⟨t, b, hexec, hdone, hbits, -, -, -, -, hbuf, hout, hcfg, -⟩ := readRegAssembles u hclk hlat
  obtain rfl := Host.Outcome.next.inj hexec
  obtain ⟨hpins, htrace, -, -, ⟨-, -, hop, -⟩, -⟩ := hdone
  refine ⟨b, hpins, htrace, hop, hbits, fun hrbn hdrives => ?_, hbuf, hout, hcfg⟩
  obtain ⟨t', hexec', hrxv, -⟩ := readRegReturnsReadback u hclk hlat hrbn hdrives
  obtain rfl := Host.Outcome.next.inj hexec'
  exact hrxv

/-- Completion of `RDCFG` delivers RXV as a configuration (45_init_and_command_port R110). -/
theorem flagsAtCompletion_rdcfg {s : State} (h : s.op = 0b011#3) :
    s.flagsAtCompletion = { s.respond true with busy := false } := by
  simp [State.flagsAtCompletion, State.resultAtCompletion, h]

theorem step_acceptRdcfg {s : State} (hr : s.port.rst = false) (hb : s.busy = false) (hi : s.initd = true)
    (hp : Presents s 0b011#3) : step s = .next (s.accept 0b011#3) := by
  obtain ⟨hvalid, hop⟩ := hp
  rw [step, fetch_command hr hb hvalid, hop]
  exact present_accepts s s _ hb fun _ => hi

/-- `RDCFG` from idle, all its steps: after `PREP_CFG` has led to `u`, `READ_REG` leads to `t`, whose RXV is delivered. -/
theorem run_rdcfg {s : State} (hs : s.Idle) (hi : s.initd = true) (hp : Presents s 0b011#3) (hr : s.NoReset 81) :
    ∃ (u t : State) (b : Fin 16 → Bool), u = (s.accept 0b011#3).performAll prepCfgEvents ∧ u.ReadBack t b
      ∧ run 81 s = .next { t.respond true with busy := false } := by
  obtain ⟨hb, hclk, hlat⟩ := hs
  have hrun := run_reading (s := s.accept 0b011#3) rfl rfl rfl (by decide) readDataIn_not_mem_prepCfg
    (State.NoReset.tail (s := s) hr rfl)
  have hprep := performAll_prepCfg (s.accept 0b011#3) hclk hlat
  obtain ⟨b, hread⟩ := performAll_readReg ((s.accept 0b011#3).performAll prepCfgEvents) (by rw [hprep]) (by rw [hprep])
  have hop : ((s.accept 0b011#3).performAll prepCfgEvents).op = 0b011#3 := by rw [hprep]; rfl
  rw [flagsAtCompletion_rdcfg (hread.op.trans hop), ← run_succ (step_acceptRdcfg hr.port hb hi hp)] at hrun
  exact ⟨_, _, b, rfl, hread, hrun⟩

end Sys2Proof.Machine

open Sys2Proof Sys2Proof.Machine Sys2Proof.Claims

/-- Settles O47: acceptance, then the events; the samples of `READ_REG` are the response, and what `PREP_CFG` selects for
reading is the configuration register but for the bit the command drew. -/
theorem rdcfgReturnsSamples : Obligations.RdcfgReturnsSamples := by
  intro s hidle hinitd hpresents hreset
  obtain ⟨u, t, b, hu, hread, hrun⟩ := run_rdcfg hidle hinitd hpresents hreset
  obtain ⟨-, hclk, hlat⟩ := hidle
  obtain rfl := hu.trans (performAll_prepCfg (s.accept 0b011#3) hclk hlat)
  obtain ⟨hpins, htrace, -, hbits, hwindow, hbuf, hout, hcfg⟩ := hread
  rw [State.pins, Pins.mk.injEq] at hpins
  obtain ⟨hdout, hclk', hlat'⟩ := hpins
  refine ⟨_, b, t.rxv, hrun, ⟨rfl, hclk', hlat'⟩, hdout, ?trace, hbits, rfl, ?drives, hbuf, hout, hcfg⟩
  case trace =>
    calc t.trace
      _ = s.trace ++ traced prepCfgList ++ traced (readRegList b) := htrace
      _ = s.trace ++ traced (prepCfgList ++ readRegList b) := by
        rw [List.append_assoc, traced, traced, traced, ← List.map_append]
  case drives =>
    intro hdrives
    rw [hwindow rfl (targetDrives_drop (m := 35) hdrives List.drop_tail)]
    exact flagFrom_withFlagOf _ _
end

section
/-! PROOFS. `SEND_CFG_WORD`: the counts of its frame, and in closed form what it does from idle pins. -/

namespace Sys2Proof.Machine

open Sys2Proof.Claims

/-! ## The counts of the frame -/

theorem settle_not_mem_cfgWord (v : Word) : Micro.settle ∉ cfgWordEvents v := by
  simp [cfgWordEvents, sendBitsEvents, sendBitEvents, pulseEvents, holdEndEvents]

theorem edges_cfgWord (v : Word) (dout b : Bool) :
    (scan (.idle dout) (asEvents b (cfgWordEvents v))).edges = wordEdges v 11 := by
  simp [scan_idle]

/-- LATCH is low at the first five edges and high at the other eleven (44_config_write R103). -/
theorem getElem?_edgeLatch_cfgWord (v : Word) (dout b : Bool) {i : Nat} (hi : i < 16) :
    (edgeLatch dout (asEvents b (cfgWordEvents v)))[i]? = some (decide (5 ≤ i)) := by
  rw [edgeLatch, edges_cfgWord, map_snd_wordEdges v (by decide), getElem?_latchPattern (by decide) hi]

/-! ## The frame at the target -/

/-- The events of a configuration word stand where 44_config_write R101 has them. -/
theorem asEvents_cfgWord (v : Word) (b : Bool) : asEvents b (cfgWordEvents v) = (List.range 50).map (cfgWordAt v) :=
  rfl

/-- `SEND_CFG_WORD v` up to its last CLOCK rising edge, after which LATCH and then CLOCK fall (44_config_write R101). -/
def cfgBits (v : Word) : List Micro :=
  sendBitsEvents (bitsDown v 15 11) ++ [.latchHigh] ++ sendBitsEvents (bitsDown v 10 1)
    ++ [.setData (v.getLsbD 0), .clockHigh]

theorem cfgWordEvents_eq (v : Word) : cfgWordEvents v = cfgBits v ++ [.latchLow, .clockLow] := by
  simp [cfgWordEvents, cfgBits, holdEndEvents]

/-- A frame of the same edges that ends as those of 41_grayscale_update do lets CLOCK fall first (R78, R79). -/
theorem wordBits_latchLow_eq (v : Word) : wordBits v 11 ++ [.latchLow] = cfgBits v ++ [.clockLow, .latchLow] := rfl

/-- Whether LATCH or CLOCK falls first is seen in the trace alone: the target does nothing at a CLOCK falling edge
(46_target_device R121). -/
theorem lowerLatch_lowerClock (s : State) :
    s.lowerLatch.lowerClock = { s.lowerClock.lowerLatch with trace := s.trace ++ traced [.ll, .cl] } := by
  obtain ⟨htarget, hdraws⟩ := latchFall_congr s.lowerClock s rfl rfl
  apply State.eq_of_fields
  case h15 => simp [traced]
  case h16 => by_cases h : s.lat = true <;> simp [h, htarget]
  case h17 => by_cases h : s.lat = true <;> simp [h, hdraws]
  case hr => simp [State.SameRegisters]
  all_goals simp [State.pins]

/-- `SEND_CFG_WORD v` from idle pins: the configuration register is written but for its thermal-error bit
(46_target_device R125). -/
theorem performAll_cfgWord (s : State) (v : Word) (hclk : s.clk = false) (hlat : s.lat = false) :
    s.performAll (cfgWordEvents v)
      = { s with
          dout := v.getLsbD 0, clk := false, lat := false
          target := { s.target.sendWord v 11 with cfg := withFlagOf v s.target.cfg }
          trace := s.trace ++ traced (asEvents false (cfgWordEvents v))
          upc := s.upc + 50, ports := s.ports.drop 50 } := by
  have htrace := performAll_traced s false (readDataIn_not_mem_cfgWord v)
  have hframe := performAll_frame s v (n := 11) (by decide) (by decide) hclk hlat
  have hswap : s.performAll (cfgWordEvents v)
      = { s.performAll (wordBits v 11 ++ [.latchLow]) with
          trace := (s.performAll (cfgBits v)).trace ++ traced [.ll, .cl] } := by
    rw [cfgWordEvents_eq, wordBits_latchLow_eq, performAll_append, performAll_append]
    exact lowerLatch_lowerClock _
  rw [hframe] at hswap
  rw [← htrace, hswap]
  rfl

end Sys2Proof.Machine

open Sys2Proof Sys2Proof.Machine Sys2Proof.Claims

/-- Settles O30: the closed form of the frame, field by field. -/
theorem sendCfgWordCompletes : Obligations.SendCfgWordCompletes := by
  intro v s hclk hlat
  exact ⟨_, congrArg Host.Outcome.next (performAll_cfgWord s v hclk hlat),
    routineDone_of_fields s _ _ ((List.range 50).map (cfgWordAt v)), rfl, rfl, rfl, rfl,
    flagFrom_withFlagOf _ _, rfl, rfl, rfl, ⟨rfl, rfl⟩⟩

/-- Settles O11: the edges of the frame are those of its word, the last eleven latched; it neither samples nor settles. -/
theorem wrcfgGroupingExact : Obligations.WrcfgGroupingExact := by
  intro v dout b
  refine ⟨length_cfgWordEvents v, ?rises, ?sigs, fun i hi => getElem?_edgeLatch_cfgWord v dout b hi,
    samples_eq_zero b (readDataIn_not_mem_cfgWord v), settles_eq_zero b (settle_not_mem_cfgWord v)⟩
  case rises => rw [rises, edges_cfgWord, length_wordEdges v (by decide) (by decide)]
  case sigs => simp [sigs, scan_idle]
end

section
/-! PROOFS. `WRCFG` as a whole: its acceptance loads the value, and its steps are those of `SEND_CFG_WORD`. -/

namespace Sys2Proof.Machine

open Sys2Proof.Claims

/-- `WRCFG` with a legal gain is accepted, its value loaded (44_config_write R102, 45_init_and_command_port R117). -/
theorem exec_wrcfg_accepts {s : State} (mask : Word) {gain : BitVec 8} (hb : s.busy = false) (hi : s.initd = true)
    (hg : gain.toNat ≤ 63) :
    exec (.wrcfg mask gain) s = .next ({ s with cfgdata := cfgValue mask gain }.accept 0b100#3) :=
  (if_neg fun h => Nat.not_lt.2 hg h.2).trans (present_accepts s _ _ hb fun _ => hi)

/-- `s` with the `WRCFG` at its port accepted (45_init_and_command_port R117). -/
def State.acceptWrcfg (s : State) : State :=
  { s with cfgdata := cfgValue s.port.cmdMask s.port.cmdGain }.accept 0b100#3

theorem step_acceptWrcfg {s : State} (hr : s.port.rst = false) (hb : s.busy = false) (hi : s.initd = true)
    (hp : Presents s 0b100#3) (hg : s.port.cmdGain.toNat ≤ 63) : step s = .next s.acceptWrcfg := by
  obtain ⟨hvalid, hop⟩ := hp
  rw [step, fetch_command hr hb hvalid, hop]
  exact exec_wrcfg_accepts _ hb hi hg

/-- Completion of `WRCFG` writes BUSY alone (45_init_and_command_port R110). -/
theorem flagsAtCompletion_wrcfg {s : State} (h : s.op = 0b100#3) : s.flagsAtCompletion = { s with busy := false } := by
  simp [State.flagsAtCompletion, State.resultAtCompletion, h]

/-- `WRCFG` with a legal gain, all its steps: acceptance, the frame of its value, and completion. -/
theorem run_wrcfg {s : State} (hb : s.busy = false) (hi : s.initd = true) (hp : Presents s 0b100#3)
    (hg : s.port.cmdGain.toNat ≤ 63) (hr : s.NoReset 51) :
    run 51 s = .next { s.acceptWrcfg.performAll (cfgWordEvents s.acceptWrcfg.cfgdata) with busy := false } := by
  have hrun := run_all (s := s.acceptWrcfg) (l := cfgWordEvents s.acceptWrcfg.cfgdata) rfl rfl rfl
    (by simp [cfgWordEvents]) (by rw [length_cfgWordEvents]; exact hr.tail rfl) (readDataIn_not_mem_cfgWord _)
  obtain ⟨-, -, hop, -⟩ := performAll_sameRegisters s.acceptWrcfg (cfgWordEvents s.acceptWrcfg.cfgdata)
  rw [length_cfgWordEvents, flagsAtCompletion_wrcfg hop] at hrun
  rw [run_succ (step_acceptWrcfg hr.port hb hi hp hg), hrun]

end Sys2Proof.Machine

open Sys2Proof Sys2Proof.Machine Sys2Proof.Claims

/-- Settles O48: acceptance loads the value, and the events that follow are `SEND_CFG_WORD` of it. -/
theorem wrcfgWritesConfiguration : Obligations.WrcfgWritesConfiguration := by
  intro s hidle hinitd hpresents hgain hreset
  obtain ⟨hb, hclk, hlat⟩ := hidle
  have hrun := run_wrcfg hb hinitd hpresents hgain hreset
  rw [performAll_cfgWord s.acceptWrcfg _ hclk hlat, asEvents_cfgWord] at hrun
  exact ⟨_, cfgValue s.port.cmdMask s.port.cmdGain, rfl, hrun, ⟨rfl, rfl, rfl⟩, rfl, rfl, flagFrom_withFlagOf _ _, rfl,
    rfl, rfl, rfl⟩
end

section
/-! PROOFS. How a command in progress ends: the step of its last event and what completion writes, the steps before it,
and which steps leave a response alone. -/

namespace Sys2Proof.Machine

open Sys2Proof.Claims

/-! ## What completion writes -/

/-- `INIT` sets INITD, and no other command writes it (45_init_and_command_port R110). -/
theorem flagsAtCompletion_initd (s : State) : s.flagsAtCompletion.initd = (s.initd || decide (s.op = 0b000#3)) := by
  unfold State.flagsAtCompletion State.resultAtCompletion
  split <;> simp_all

/-- A command that reads nothing leaves the response registers alone (10_state R22). -/
theorem flagsAtCompletion_response {s : State} (herr : s.op ≠ 0b010#3) (hcfg : s.op ≠ 0b011#3) :
    s.flagsAtCompletion.rspValid = s.rspValid ∧ s.flagsAtCompletion.rspTag = s.rspTag
      ∧ s.flagsAtCompletion.rspData = s.rspData := by
  unfold State.flagsAtCompletion State.resultAtCompletion
  split <;> simp_all

/-! ## The step of the last event -/

/-- Beginning `READ_REG` and performing an event write none of the registers that events leave alone. -/
theorem sameRegisters_beginRoutine_perform (s : State) (m : Micro) :
    s.SameRegisters (s.beginRoutine.perform m) := by
  simpa [State.SameRegisters] using perform_sameRegisters s.beginRoutine m

/-- The step of the last event performs it and completes the command (45_init_and_command_port R110). -/
theorem step_last {s : State} {m : Micro} (hr : s.port.rst = false) (hb : s.busy = true)
    (hev : s.events.drop s.upc.toNat = [m]) : step s = .next (s.beginRoutine.perform m).flagsAtCompletion := by
  have hlen := congrArg List.length hev
  rw [List.length_drop, List.length_singleton] at hlen
  rw [step_performs hr hb hev, State.completeIfDone, if_pos]
  rw [perform_upc_toNat m (by simp; omega), perform_events, beginRoutine_events, State.beginRoutine_upc]
  omega

theorem drop_upc_of_last {s : State} (h : s.upc.toNat + 1 = s.events.length) :
    ∃ m, s.events.drop s.upc.toNat = [m] :=
  List.length_eq_one_iff.1 (by rw [List.length_drop]; omega)

/-! ## The steps until then -/

/-- From `s` on, BUSY is 1 before each of `n` steps, and 0 after the last of them. -/
def State.BusyFor (s : State) (n : Nat) : Prop :=
  (∀ j < n, ∃ u, run j s = .next u ∧ u.busy = true) ∧ ∃ t, run n s = .next t ∧ t.busy = false

theorem State.BusyFor.of_step {s t : State} {n : Nat} (h : t.BusyFor n) (hb : s.busy = true)
    (hstep : step s = .next t) : s.BusyFor (n + 1) := by
  obtain ⟨hbefore, hlast⟩ := h
  refine ⟨fun j hj => ?_, by rwa [run_succ hstep]⟩
  cases j with
  | zero => exact ⟨s, rfl, hb⟩
  | succ j => rw [run_succ hstep]; exact hbefore j (Nat.lt_of_succ_lt_succ hj)

/-- A command takes as many steps as it has events left, by induction on them. -/
theorem busyFor_events {s : State} {m : Micro} {l : List Micro} (hb : s.busy = true) (hr : s.NoReset (l.length + 1))
    (hev : s.events.drop s.upc.toNat = m :: l) : s.BusyFor (l.length + 1) := by
  induction l generalizing s m with
  | nil =>
    have hdone : (s.beginRoutine.perform m).flagsAtCompletion.BusyFor 0 := ⟨by simp, _, rfl, by simp⟩
    exact hdone.of_step hb (step_last hr.port hb hev)
  | cons m' l ih =>
    obtain ⟨t, -, hstep, hbt, -, -, hports, hevt⟩ := step_goes_on hr.port hb hev
    exact (ih hbt (hr.tail hports) hevt).of_step hb hstep

/-! ## What is executed of a command at the port -/

/-- Executing one of the five commands is presenting it (45_init_and_command_port R117, R118), unless it is refused
outright, which happens only while no command is in progress (30_encoding R59). -/
theorem exec_command_cases {i : Instr} (h : isCommand i = true) (s : State) :
    (s.busy = false ∧ ∃ r, exec i s = .refused r) ∨ ∃ op loaded, exec i s = s.present op loaded := by
  cases i with
  | init | update _ | rderr | rdcfg => exact .inr ⟨_, _, rfl⟩
  | wrcfg mask gain =>
    by_cases hg : s.busy = false ∧ Config.maxGain < gain.toNat
    · exact .inl ⟨hg.1, _, if_pos hg⟩
    · exact .inr ⟨_, _, if_neg hg⟩
  | _ => cases h

/-- What the port presents is one of the five commands, or a reserved opcode, which is refused (30_encoding R59). -/
theorem decodeHost_cases (op : Opcode) (words : BitVec 256) (mask : Word) (gain : BitVec 8) (s : State) :
    isCommand (decodeHost op words mask gain) = true
      ∨ exec (decodeHost op words mask gain) s = .refused .reservedOpcode := by
  unfold decodeHost
  split
  case h_6 | h_7 | h_8 => exact .inr rfl
  all_goals exact .inl rfl

/-- A command that is not refused waits for one in progress or is in progress itself. -/
theorem busy_of_present {s loaded t : State} {op : Opcode} (h : s.present op loaded = .next t) : t.busy = true := by
  obtain ⟨hb, hw⟩ | ⟨-, -, -, hr⟩ | ⟨-, -, ha⟩ := present_cases s op loaded
  · obtain rfl : s = t := by simpa [hw] using h
    exact hb
  · simp [hr] at h
  · obtain rfl : loaded.accept op = t := by simpa [ha] using h
    rfl

theorem busy_of_exec_decodeHost {s t : State} (p : PortIn)
    (h : exec (decodeHost p.cmdOp p.cmdWords p.cmdMask p.cmdGain) s = .next t) : t.busy = true := by
  obtain hc | hr := decodeHost_cases p.cmdOp p.cmdWords p.cmdMask p.cmdGain s
  · obtain ⟨-, r, hr⟩ | ⟨op, loaded, hp⟩ := exec_command_cases hc s
    · simp [hr] at h
    · exact busy_of_present (hp ▸ h)
  · simp [hr] at h

end Sys2Proof.Machine

open Sys2Proof Sys2Proof.Machine Sys2Proof.Claims

/-- Settles O52, by induction on the events left. -/
theorem busyCommandsComplete : Obligations.BusyCommandsComplete := by
  intro s hs hb hr
  have hlen := List.length_drop (l := s.events) (i := s.upc.toNat)
  have hpos := hs.inList hb
  rw [← hlen] at hr ⊢
  cases hev : s.events.drop s.upc.toNat with
  | nil => rw [hev, List.length_nil] at hlen; omega
  | cons m l => rw [hev] at hr; exact busyFor_events hb hr hev

/-- Settles O53: events leave flags, OP and response as they are, so that the step writes what completion writes. -/
theorem completionWrites : Obligations.CompletionWrites := by
  intro s t hr hb hlast hstep
  obtain ⟨m, hev⟩ := drop_upc_of_last hlast
  obtain rfl := Host.Outcome.next.inj ((step_last hr hb hev).symm.trans hstep)
  obtain ⟨hinitd, -, hop, -, -, hvalid, htag, hdata⟩ := sameRegisters_beginRoutine_perform s m
  generalize s.beginRoutine.perform m = u at hinitd hop hvalid htag hdata ⊢
  rw [← hinitd, ← hop, ← hvalid, ← htag, ← hdata]
  refine ⟨u.flagsAtCompletion_busy, flagsAtCompletion_initd u, fun h => ?rderr, fun h => ?rdcfg,
    flagsAtCompletion_response⟩
  case rderr => rw [flagsAtCompletion_rderr h]; exact ⟨rfl, rfl, rfl⟩
  case rdcfg => rw [flagsAtCompletion_rdcfg h]; exact ⟨rfl, rfl, rfl⟩

/-- Settles O57: while a response is offered no command is in progress, and a step that presents one and goes on leaves
BUSY at 1. -/
theorem responsePersists : Obligations.ResponsePersists := by
  intro s t hs hvalid hr hstep hbt
  have hnot : ¬ s.busy = true := fun hb => by simp [hs.noResponse hb] at hvalid
  obtain ⟨hreset, -⟩ | ⟨-, hb, -⟩ | ⟨-, hb, -⟩ | ⟨-, -, -, hc⟩ | ⟨-, -, -, hi⟩ := step_cases s
  · simp [hr] at hreset
  · exact absurd hb hnot
  · exact absurd hb hnot
  · simp [busy_of_exec_decodeHost s.port (hc ▸ hstep)] at hbt
  · obtain rfl : s.tick = t := by simpa [hi] using hstep
    rfl
end

section
/-! PROOFS. The command port: acceptance of each command, refusal before `INIT`, and waiting while another command is in
progress. -/

namespace Sys2Proof.Machine

open Sys2Proof.Claims

/-! ## Acceptance and refusal -/

/-- Before `INIT` every other command is refused (45_init_and_command_port R114). -/
theorem present_refuses {s : State} (loaded : State) {op : Opcode} (hb : s.busy = false) (hi : s.initd = false)
    (hop : op ≠ 0b000#3) : s.present op loaded = .refused .notInitialised := by
  simp [State.present, hb, hi, hop]

/-- A value of `WRCFG`, bit by bit: the mask, OR-ed with the gain two places up (30_encoding R56). -/
theorem getLsbD_cfgValue (mask : Word) (gain : BitVec 8) {i : Nat} (hi : i < 16) :
    (cfgValue mask gain).getLsbD i = (mask.getLsbD i || (!decide (i < 2) && gain.getLsbD (i - 2))) := by
  rw [cfgValue, shl, BitVec.getLsbD_or, BitVec.getLsbD_shiftLeft, BitVec.getLsbD_setWidth, decide_eq_true hi,
    decide_eq_true (show i - 2 < 16 by omega), Bool.true_and, Bool.true_and]

/-- A legal gain has six bits (45_init_and_command_port R108). -/
theorem getLsbD_legalGain {gain : BitVec 8} (h : gain.toNat ≤ 63) {i : Nat} (hi : 6 ≤ i) : gain.getLsbD i = false :=
  Nat.testBit_lt_two_pow (by
    calc gain.toNat
      _ < 2 ^ 6 := by omega
      _ ≤ 2 ^ i := Nat.pow_le_pow_right (by decide) hi)

/-! ## Waiting -/

/-- While a command is in progress another one waits (45_init_and_command_port R118). -/
theorem exec_command_waits {i : Instr} {s : State} (h : isCommand i = true) (hb : s.busy = true) :
    exec i s = .next s := by
  obtain ⟨hb', -⟩ | ⟨op, loaded, hp⟩ := exec_command_cases h s
  · simp [hb] at hb'
  · rw [hp, State.present, if_pos hb]

/-- `s` with other levels at its input ports. -/
def State.withPorts (s : State) (l : List PortIn) : State := { s with ports := l }

theorem forceLatchLow_withPorts (s : State) (l : List PortIn) :
    (s.withPorts l).forceLatchLow = s.forceLatchLow.withPorts l := by
  have hfall : (s.withPorts l).latchFall = s.latchFall.withPorts l := by
    simp only [State.latchFall, State.withPorts]
    split <;> rfl
  have hlat : (s.withPorts l).lat = s.lat := rfl
  rw [State.forceLatchLow, State.forceLatchLow, hfall, hlat]
  split <;> rfl

theorem takeReset_withPorts (s : State) (l : List PortIn) :
    (s.withPorts l).takeReset = s.takeReset.withPorts l.tail := by
  rw [State.takeReset, forceLatchLow_withPorts]
  rfl

theorem beginRoutine_withPorts (s : State) (l : List PortIn) :
    (s.withPorts l).beginRoutine = s.beginRoutine.withPorts l := by
  by_cases h : readRegStart s.op = some s.upc.toNat
  · rw [beginRoutine_of_eq h, beginRoutine_of_eq (s := s.withPorts l) h]
    rfl
  · rw [beginRoutine_of_ne h, beginRoutine_of_ne (s := s.withPorts l) h]

theorem raiseLatch_redundant (s : State) (h : s.lat = true) : s.raiseLatch = s.emit .lh := by
  simp [State.raiseLatch, State.emit, h]

theorem raiseClock_withPorts (s : State) (l : List PortIn) :
    (s.withPorts l).raiseClock = s.raiseClock.withPorts l.tail := by
  cases h : s.clk
  · rw [raiseClock_edge s h, raiseClock_edge (s.withPorts l) h]
    rfl
  · rw [raiseClock_redundant s h, raiseClock_redundant (s.withPorts l) h]
    rfl

theorem raiseLatch_withPorts (s : State) (l : List PortIn) :
    (s.withPorts l).raiseLatch = s.raiseLatch.withPorts l.tail := by
  cases h : s.lat
  · rw [raiseLatch_edge s h, raiseLatch_edge (s.withPorts l) h]
    rfl
  · rw [raiseLatch_redundant s h, raiseLatch_redundant (s.withPorts l) h]
    rfl

/-- `LL` and a reset lower LATCH alike (70_reset_and_hazards R140). -/
theorem lowerLatch_eq_forceLatchLow (s : State) :
    s.lowerLatch = { s.forceLatchLow with lat := false }.emit .ll := rfl

theorem lowerLatch_withPorts (s : State) (l : List PortIn) :
    (s.withPorts l).lowerLatch = s.lowerLatch.withPorts l.tail := by
  rw [lowerLatch_eq_forceLatchLow, lowerLatch_eq_forceLatchLow, forceLatchLow_withPorts]
  rfl

/-- A sample sees of the ports the level of DATA_IN alone (10_state R29). -/
theorem sampleDataIn_withPorts (s : State) {p q : PortIn} (rest : List PortIn) (h : p.dataIn = q.dataIn) :
    (s.withPorts (p :: rest)).sampleDataIn = (s.withPorts (q :: rest)).sampleDataIn := by
  have hlevel : (s.withPorts (p :: rest)).dataInLevel = (s.withPorts (q :: rest)).dataInLevel := by
    simp [State.dataInLevel, State.port, State.withPorts, h]
  have hfree : (s.withPorts (p :: rest)).lineFree = (s.withPorts (q :: rest)).lineFree := by
    simp [State.lineFree, State.port, State.withPorts, h]
  rw [State.sampleDataIn, State.sampleDataIn, hlevel, hfree]
  rfl

/-- Of the levels at the ports an event sees that of DATA_IN alone, and only where it is a sample. -/
theorem perform_withPorts (s : State) (m : Micro) {p q : PortIn} (rest : List PortIn) (h : p.dataIn = q.dataIn) :
    (s.withPorts (p :: rest)).perform m = (s.withPorts (q :: rest)).perform m := by
  cases m with
  | readDataIn => exact sampleDataIn_withPorts s rest h
  | clockHigh => exact (raiseClock_withPorts s _).trans (raiseClock_withPorts s (q :: rest)).symm
  | latchHigh => exact (raiseLatch_withPorts s _).trans (raiseLatch_withPorts s (q :: rest)).symm
  | latchLow => exact (lowerLatch_withPorts s _).trans (lowerLatch_withPorts s (q :: rest)).symm
  | setData _ | clockLow | settle => rfl

/-- A step while a command is in progress (60_exceptions R132): a reset, the next event, or the fault where there is
none. -/
theorem step_busy {s : State} (hb : s.busy = true) :
    step s = if s.port.rst then .next s.takeReset
      else s.nextEvent.elim (.fault .noEvent) fun m => .next (s.beginRoutine.perform m).completeIfDone := by
  obtain ⟨hr, h⟩ | ⟨hr, -, m, hm, h⟩ | ⟨hr, -, hm, h⟩ | ⟨-, hb', -⟩ | ⟨-, hb', -⟩ := step_cases s
  · rw [h, if_pos hr]
  · rw [h, hr, hm]; rfl
  · rw [h, hr, hm]; rfl
  · simp [hb] at hb'
  · simp [hb] at hb'

/-- While a command is in progress a step sees of the ports the levels of `rst` and DATA_IN alone
(45_init_and_command_port R118). -/
theorem step_withPorts {s : State} {p q : PortIn} (rest : List PortIn) (hb : s.busy = true) (hrst : p.rst = q.rst)
    (hdata : p.dataIn = q.dataIn) : step (s.withPorts (p :: rest)) = step (s.withPorts (q :: rest)) := by
  have hport : (s.withPorts (p :: rest)).port.rst = (s.withPorts (q :: rest)).port.rst := hrst
  have hnext : (s.withPorts (p :: rest)).nextEvent = (s.withPorts (q :: rest)).nextEvent := rfl
  rw [step_busy (s := s.withPorts (p :: rest)) hb, step_busy (s := s.withPorts (q :: rest)) hb, hport, hnext]
  simp only [takeReset_withPorts, beginRoutine_withPorts, perform_withPorts _ _ rest hdata, List.tail_cons]

end Sys2Proof.Machine

open Sys2Proof Sys2Proof.Machine Sys2Proof.Claims

/-- Settles O36: `INIT` needs no `INIT` before it. -/
theorem initAccepted : Obligations.InitAccepted := fun s hb => present_accepts s s _ hb fun h => absurd rfl h

/-- Settles O37: `UPDATE` is accepted with its words loaded. -/
theorem updateAccepted : Obligations.UpdateAccepted := fun ws s hb hi =>
  present_accepts s { s with words := ws } _ hb fun _ => hi

/-- Settles O38: the reads are accepted with nothing loaded. -/
theorem readsAccepted : Obligations.ReadsAccepted := fun s hb hi =>
  ⟨present_accepts s s _ hb fun _ => hi, present_accepts s s _ hb fun _ => hi⟩

/-- Settles O39: a legal gain has six bits, which stand at 7:2 of the value. -/
theorem wrcfgAccepted : Obligations.WrcfgAccepted := by
  intro mask gain s hb hi hg
  refine ⟨cfgValue mask gain, exec_wrcfg_accepts mask hb hi hg, fun i h2 h8 => ?gain, fun i h => ?mask⟩
  case gain =>
    rw [getLsbD_cfgValue mask gain (by omega), decide_eq_false (Nat.not_lt.2 h2), Bool.not_false, Bool.true_and]
  case mask =>
    by_cases h16 : i < 16
    · rw [getLsbD_cfgValue mask gain h16]
      obtain h2 | h8 := h
      · simp [h2]
      · simp [getLsbD_legalGain hg (show 6 ≤ i - 2 by omega)]
    · rw [BitVec.getLsbD_of_ge _ _ (by omega), BitVec.getLsbD_of_ge _ _ (by omega)]

/-- Settles O40: each is refused where it is presented; a `WRCFG` with an illegal gain is refused for it. -/
theorem refusedBeforeInit : Obligations.RefusedBeforeInit := by
  intro s hb hi
  refine ⟨fun ws => present_refuses _ hb hi (by decide), present_refuses _ hb hi (by decide),
    present_refuses _ hb hi (by decide), fun mask gain => ?_⟩
  by_cases hg : gain.toNat ≤ 63
  · exact ⟨_, (if_neg fun h => Nat.not_lt.2 hg h.2).trans (present_refuses _ hb hi (by decide)), fun _ => rfl⟩
  · exact ⟨_, if_pos ⟨hb, Nat.not_le.1 hg⟩, fun h => absurd h hg⟩

/-- Settles O42: a command at the port waits, and an event sees of the ports DATA_IN alone. -/
theorem busyPortWaits : Obligations.BusyPortWaits := fun _ hb =>
  ⟨fun _ h => exec_command_waits h hb, fun _ _ rest hrst hdata => step_withPorts rest hb hrst hdata⟩
end

section
/-! PROOFS. `INIT` as a whole: its acceptance, its three events in closed form, and completion. -/

namespace Sys2Proof.Machine

open Sys2Proof.Claims

/-- The events of `INIT` with LATCH low: the pins go low, and the target, which ignores CLOCK falling, is not touched
(45_init_and_command_port R113, 46_target_device R121). -/
theorem performAll_init (s : State) (hlat : s.lat = false) :
    s.performAll initEvents
      = { s with
          dout := false, clk := false, lat := false
          trace := s.trace ++ traced [.d false, .cl, .ll]
          upc := s.upc + 3, ports := s.ports.drop 3 } := by
  rw [show s.performAll initEvents = ((s.driveData false).lowerClock).lowerLatch from rfl,
    lowerLatch_redundant _ (by simpa using hlat)]
  apply State.eq_of_fields
  case hr => simp [State.SameRegisters]
  all_goals simp [State.pins, hlat, traced, BitVec.add_assoc, ← List.drop_one]

/-- Completion of `INIT` sets INITD (45_init_and_command_port R110). -/
theorem flagsAtCompletion_init {s : State} (h : s.op = 0b000#3) :
    s.flagsAtCompletion = { s with initd := true, busy := false } := by
  simp [State.flagsAtCompletion, State.resultAtCompletion, h]

theorem step_acceptInit {s : State} (hr : s.port.rst = false) (hb : s.busy = false) (hp : Presents s 0b000#3) :
    step s = .next (s.accept 0b000#3) := by
  obtain ⟨hvalid, hop⟩ := hp
  rw [step, fetch_command hr hb hvalid, hop]
  exact initAccepted s hb

/-- `INIT`, all its steps: acceptance, three events, and completion. -/
theorem run_init {s : State} (hb : s.busy = false) (hp : Presents s 0b000#3) (hr : s.NoReset 4) :
    run 4 s = .next { (s.accept 0b000#3).performAll initEvents with initd := true, busy := false } := by
  have hrun := run_all (s := s.accept 0b000#3) (l := initEvents) rfl rfl rfl (by decide) (hr.tail rfl) (by decide)
  obtain ⟨-, -, hop, -⟩ := performAll_sameRegisters (s.accept 0b000#3) initEvents
  rw [flagsAtCompletion_init hop] at hrun
  rw [run_succ (step_acceptInit hr.port hb hp)]
  exact hrun

end Sys2Proof.Machine

open Sys2Proof Sys2Proof.Machine Sys2Proof.Claims

/-- Settles O43: the step of acceptance, then the three events, which change nothing at the target, since LATCH is low
already. -/
theorem initRuns : Obligations.InitRuns := by
  intro s hidle hpresents hreset
  obtain ⟨hb, hclk, hlat⟩ := hidle
  have hrun := run_init hb hpresents hreset
  rw [performAll_init (s.accept 0b000#3) hlat] at hrun
  refine ⟨⟨s.accept 0b000#3, run_succ (step_acceptInit hreset.port hb hpresents) 0, rfl, rfl, rfl, rfl⟩, _, hrun, rfl,
    rfl, rfl, rfl, rfl, rfl, ?ports⟩
  case ports => exact List.drop_tail
end

section
/-! PROOFS. The target as a device of its own: each reaction in closed form, and that in a step only a LATCH fall at
signature 3 writes the live outputs. -/

namespace Sys2Proof.Machine

open Sys2Proof.Claims

/-! ## The live outputs over a step -/

/-- A reset writes OUT only where its forced LATCH fall finds the count at 3 (70_reset_and_hazards R140,
46_target_device R123). -/
theorem takeReset_out (s : State) :
    s.takeReset.target.out
      = if s.lat = true ∧ s.target.lcnt = 3 then pushWord s.target.buf s.target.tsr else s.target.out := by
  by_cases h : s.lat = true <;> simp [h, latchFall_out]

/-- Presenting a command does not touch the target (45_init_and_command_port R117, R118). -/
theorem target_of_present {s loaded t : State} {op : Opcode} (h : s.present op loaded = .next t)
    (hl : loaded.target = s.target) : t.target = s.target := by
  obtain ⟨-, hw⟩ | ⟨-, -, -, hr⟩ | ⟨-, -, ha⟩ := present_cases s op loaded
  · rw [Host.Outcome.next.inj (hw.symm.trans h)]
  · cases hr.symm.trans h
  · rw [← Host.Outcome.next.inj (ha.symm.trans h), State.accept_target, hl]

/-- Whatever is at the command port, executing it does not touch the target. -/
theorem target_of_exec_decodeHost {s t : State} (p : PortIn)
    (h : exec (decodeHost p.cmdOp p.cmdWords p.cmdMask p.cmdGain) s = .next t) : t.target = s.target := by
  unfold decodeHost at h
  split at h
  case h_5 =>
    obtain ⟨-, hg⟩ | hg := ite_eq_iff.1 h
    · cases hg
    · exact target_of_present hg.2 rfl
  case h_6 | h_7 | h_8 => cases h
  all_goals exact target_of_present h rfl

end Sys2Proof.Machine

open Sys2Proof Sys2Proof.Machine Sys2Proof.Claims

/-- Settles O56, by what the step is: a reset and an event write OUT only by a LATCH fall at the count 3, and no other
move reaches the target. -/
theorem outputsChangeOnlyByGlobalLatch : Obligations.OutputsChangeOnlyByGlobalLatch := by
  intro s t hstep
  obtain ⟨-, hr⟩ | ⟨-, -, m, -, he⟩ | ⟨-, -, -, hf⟩ | ⟨-, -, -, hc⟩ | ⟨-, -, -, hi⟩ := step_cases s
  case inl =>
    obtain rfl := Host.Outcome.next.inj (hr.symm.trans hstep)
    rw [takeReset_out]
    split_ifs with h
    · exact .inr ⟨h.1, s.takeReset_lat, h.2, pushed_pushWord _ _⟩
    · exact .inl rfl
  case inr.inl =>
    obtain rfl := Host.Outcome.next.inj (he.symm.trans hstep)
    rw [State.completeIfDone_target, perform_out, State.beginRoutine_lat, State.beginRoutine_target]
    split_ifs with h
    · obtain ⟨rfl, hlat, hcount⟩ := h
      exact .inr ⟨hlat, by simp [State.perform], hcount, pushed_pushWord _ _⟩
    · exact .inl rfl
  case inr.inr.inl => cases hf.symm.trans hstep
  case inr.inr.inr.inl => exact .inl (congrArg Target.out (target_of_exec_decodeHost s.port (hc.symm.trans hstep)))
  case inr.inr.inr.inr =>
    obtain rfl := Host.Outcome.next.inj (hi.symm.trans hstep)
    exact .inl rfl

/-- Settles O16, by whether LATCH rises. -/
theorem latchHighCompletes : Obligations.LatchHighCompletes := by
  refine fun s => ⟨fun h => ?edge, fun h => ?redundant⟩
  case edge => exact congrArg Host.Outcome.next (raiseLatch_edge s h)
  case redundant => exact congrArg Host.Outcome.next (raiseLatch_redundant s h)

/-- Settles O23: the CLOCK reaction is R121 field by field, the LATCH reaction R122 as it stands. -/
theorem edgeReactions : Obligations.EdgeReactions := fun _ => ⟨⟨_, afterClockRise_clockRise _ _ _, rfl⟩, rfl⟩

/-- Settles O24: both signatures push the same word. -/
theorem dataAndGlobalLatch : Obligations.DataAndGlobalLatch := fun _ => ⟨_, pushed_pushWord _ _, rfl, rfl⟩

/-- Settles O25: both words are one word but for the thermal-error bit of another. -/
theorem configReactions : Obligations.ConfigReactions := fun _ =>
  ⟨⟨_, flagFrom_withFlagOf _ _, rfl⟩, ⟨_, flagFrom_withFlagOf _ _, rfl⟩⟩

/-- Settles O26: `State.detectErrors` and `State.selectErr` are R124 as it stands. -/
theorem errorReactions : Obligations.ErrorReactions := fun _ => ⟨rfl, rfl⟩

/-- Settles O27: `State.unusedSignature` is R127 as it stands, whatever the count. -/
theorem unusedSignatureKeepsOutputs : Obligations.UnusedSignatureKeepsOutputs := fun _ _ => rfl
end

section
/-! PROOFS. The configuration round trip: the steps of `WRCFG` end idle with the next command at the port, and what
`RDCFG` then reads is the value written but for the thermal-error bit. -/

namespace Sys2Proof.Machine

open Sys2Proof.Claims

/-- Words that take all bits but the thermal-error bit from one base agree with it outside that bit. -/
theorem off_flag_of_flagFrom {base flag v : Word} (h : FlagFrom base flag v) :
    v &&& ~~~Config.thermalErrorFlag = base &&& ~~~Config.thermalErrorFlag := by
  refine BitVec.eq_of_getLsbD_eq fun i hi => ?_
  rw [BitVec.getLsbD_and, BitVec.getLsbD_and, BitVec.getLsbD_not, h i hi]
  cases Config.thermalErrorFlag.getLsbD i <;> simp

/-- `t` follows `s` by a `WRCFG` of the value `v`: the machine is idle, ready for the command then at the port. -/
structure State.Configured (s t : State) (v : Word) : Prop where
  idle : t.Idle
  initd : t.initd = true
  ports : t.ports = s.ports.drop 51
  cfg : FlagFrom v s.target.cfg t.target.cfg

theorem run_wrcfg_configured {s : State} (hs : s.Idle) (hi : s.initd = true) (hp : Presents s 0b100#3)
    (hg : s.port.cmdGain.toNat ≤ 63) (hr : s.NoReset 51) :
    ∃ t, run 51 s = .next t ∧ s.Configured t (cfgValue s.port.cmdMask s.port.cmdGain) := by
  obtain ⟨hb, hclk, hlat⟩ := hs
  have hrun := run_wrcfg hb hi hp hg hr
  rw [performAll_cfgWord s.acceptWrcfg _ hclk hlat] at hrun
  exact ⟨_, hrun, ⟨rfl, rfl, rfl⟩, hi, List.drop_tail, flagFrom_withFlagOf _ _⟩

end Sys2Proof.Machine

open Sys2Proof Sys2Proof.Machine Sys2Proof.Claims

/-- Settles O49: the 51 steps of `WRCFG`, then the 81 of `RDCFG` from the idle state they lead to; both the register
written and the value read are the command's value outside the thermal-error bit. -/
theorem configRoundTrip : Obligations.ConfigRoundTrip := by
  intro s hidle hinitd hpresents hgain hreset hdrives hvalid hop
  obtain ⟨u, hwrite, hidle', hinitd', hports, hcfg⟩ :=
    run_wrcfg_configured hidle hinitd hpresents hgain (hreset.mono (by decide))
  have hpresents' : Presents u 0b011#3 := by
    rw [Presents, State.port, hports]
    exact ⟨hvalid, hop⟩
  obtain ⟨t, b, v, hread, -, -, -, -, hresponse, hflag, -⟩ :=
    rdcfgReturnsSamples u hidle' hinitd' hpresents' (State.NoReset.drop (m := 51) hreset hports)
  refine ⟨t, v, (run_add hwrite 81).trans hread, hresponse, ?agree⟩
  calc v &&& ~~~Config.thermalErrorFlag
    _ = u.target.cfg &&& ~~~Config.thermalErrorFlag :=
      off_flag_of_flagFrom (hflag (targetDrives_drop (m := 51) hdrives hports))
    _ = cfgValue s.port.cmdMask s.port.cmdGain &&& ~~~Config.thermalErrorFlag := off_flag_of_flagFrom hcfg
end

section
/-! PROOFS. `UPDATE` cut short by a reset: until the third latched edge of the last word the forced LATCH fall finds
fewer than three edges counted, and from that edge on it commits what the `UPDATE` itself would commit. -/

namespace Sys2Proof.Machine

open Sys2Proof.Claims

/-! ## What a LATCH fall would find counted -/

/-- The edges counted in the latched interval that is open, and 0 where none is. -/
def State.openCount (s : State) : Nat := if s.lat then s.target.lcnt else 0

theorem openCount_of_lat {s : State} (h : s.lat = false) : s.openCount = 0 := by simp [State.openCount, h]

/-- Only a CLOCK rising edge adds to the count (46_target_device R121, R122). -/
theorem openCount_perform_le (s : State) (m : Micro) :
    (s.perform m).openCount ≤ s.openCount + [m].count .clockHigh := by
  cases m
  case clockHigh =>
    by_cases hc : s.clk = true <;> by_cases hl : s.lat = true <;>
      simp [State.openCount, State.perform, hc, hl, Target.clockRise]
  case latchHigh => by_cases hl : s.lat = true <;> simp [State.openCount, State.perform, hl]
  case latchLow => exact (openCount_of_lat (State.lowerLatch_lat s)).trans_le (Nat.zero_le _)
  all_goals exact Nat.le_add_right s.openCount _

theorem openCount_performAll_le (s : State) (l : List Micro) :
    (s.performAll l).openCount ≤ s.openCount + l.count .clockHigh := by
  induction l generalizing s with
  | nil => exact le_rfl
  | cons m l ih =>
    calc (s.performAll (m :: l)).openCount
      _ ≤ (s.perform m).openCount + l.count .clockHigh := ih (s.perform m)
      _ ≤ s.openCount + [m].count .clockHigh + l.count .clockHigh := Nat.add_le_add_right (openCount_perform_le s m) _
      _ = s.openCount + (m :: l).count .clockHigh := by
        rw [Nat.add_assoc, ← List.count_append, List.singleton_append]

/-- After any part of a list that raises LATCH once, the count is at most the number of CLOCK drives after that. -/
theorem openCount_take_le {s : State} {a b : List Micro} (ha : .latchHigh ∉ a) (hlat : s.lat = false) (n : Nat) :
    (s.performAll ((a ++ .latchHigh :: b).take n)).openCount ≤ b.count .clockHigh := by
  induction a generalizing s n with
  | nil =>
    cases n with
    | zero => exact (openCount_of_lat hlat).trans_le (Nat.zero_le _)
    | succ n =>
      have hraise : s.raiseLatch.openCount = 0 := by simp [State.openCount, hlat]
      calc (s.raiseLatch.performAll (b.take n)).openCount
        _ ≤ s.raiseLatch.openCount + (b.take n).count .clockHigh := openCount_performAll_le _ _
        _ = (b.take n).count .clockHigh := by rw [hraise, Nat.zero_add]
        _ ≤ b.count .clockHigh := (List.take_sublist n b).count_le _
  | cons m a ih =>
    rw [List.mem_cons, not_or] at ha
    cases n with
    | zero => exact (openCount_of_lat hlat).trans_le (Nat.zero_le _)
    | succ n =>
      have hlow : (s.perform m).lat = false := by
        cases m
        case latchHigh => exact absurd rfl ha.1
        all_goals simp [State.perform, hlat]
      exact ih ha.2 hlow n

/-! ## The counts inside `UPDATE` -/

theorem latchHigh_not_mem_sendBits (bs : List Bool) : Micro.latchHigh ∉ sendBitsEvents bs := by
  simp [sendBitsEvents, sendBitEvents, pulseEvents]

/-- Inside a data word at most one edge is counted. -/
theorem openCount_take_dataWord {s : State} (w : Word) (hlat : s.lat = false) (n : Nat) :
    (s.performAll ((dataWordEvents w).take n)).openCount ≤ 1 := by
  have hsplit : dataWordEvents w
      = sendBitsEvents (bitsDown w 15 1) ++ .latchHigh :: (sendBitEvents (w.getLsbD 0) ++ [.latchLow]) := by
    simp [dataWordEvents]
  rw [hsplit]
  exact openCount_take_le (latchHigh_not_mem_sendBits _) hlat n

/-- The global word up to its third latched edge, which is the next event (41_grayscale_update R79). -/
def globalWordStart (w : Word) : List Micro :=
  sendBitsEvents (bitsDown w 15 3)
    ++ .latchHigh :: (sendBitsEvents [w.getLsbD 2, w.getLsbD 1] ++ [.setData (w.getLsbD 0)])

/-- Data words and then the global word up to its third latched edge: nowhere are more than two edges counted. -/
theorem openCount_take_words {s : State} (ws : Words) (w : Word) {ks : List (Fin 16)} (hks : ∀ k ∈ ks, k.val < 15)
    (hlat : s.lat = false) (n : Nat) :
    (s.performAll ((ks.flatMap (wordEvents ws) ++ globalWordStart w).take n)).openCount ≤ 2 := by
  induction ks generalizing s n with
  | nil => exact openCount_take_le (latchHigh_not_mem_sendBits _) hlat n
  | cons k ks ih =>
    rw [List.forall_mem_cons] at hks
    have hframe : wordEvents ws k = dataWordEvents (memRead ws k) := if_pos hks.1
    rw [List.flatMap_cons, List.append_assoc]
    obtain hn | hn := Nat.le_total n (wordEvents ws k).length
    · rw [List.take_append_of_le_length hn, hframe]
      exact (openCount_take_dataWord _ hlat n).trans (by decide)
    · have hlow : (s.performAll (wordEvents ws k)).lat = false := by
        rw [wordEvents_eq, performAll_append]
        exact State.lowerLatch_lat _
      rw [List.take_append, List.take_of_length_le hn, performAll_append]
      exact ih hks.2 hlow _

/-- `UPDATE` up to the third latched edge of its last word, which is the next event (41_grayscale_update R82). -/
def updateStart (ws : Words) : List Micro :=
  dataIndices.flatMap (wordEvents ws) ++ globalWordStart (memRead ws 15)

/-- After that edge come the falls of CLOCK and LATCH alone. -/
theorem updateEvents_eq_updateStart (ws : Words) :
    updateEvents ws = (updateStart ws ++ [.clockHigh]) ++ [.clockLow, .latchLow] := by
  rw [updateEvents_eq, updateStart, List.append_assoc, List.append_assoc]
  rfl

theorem length_updateStart_edge (ws : Words) : (updateStart ws ++ [Micro.clockHigh]).length = 798 := by
  have hlen := congrArg List.length (updateEvents_eq_updateStart ws)
  rw [length_updateEvents, List.length_append] at hlen
  exact (Nat.add_right_cancel (m := 2) hlen).symm

/-- Until the third latched edge of the last word fewer than three edges are counted. -/
theorem openCount_update_take {s : State} (ws : Words) (hlat : s.lat = false) {n : Nat} (hn : n < 798) :
    (s.performAll ((updateEvents ws).take n)).openCount ≤ 2 := by
  have hlen := length_updateStart_edge ws
  rw [List.length_append, List.length_singleton] at hlen
  rw [updateEvents_eq_updateStart, List.append_assoc, List.take_append_of_le_length (by omega)]
  exact openCount_take_words ws _ (fun _ => lt_of_mem_dataIndices) hlat n

theorem mem_update_drop {ws : Words} {n : Nat} (hn : 798 ≤ n) {m : Micro} (hm : m ∈ (updateEvents ws).drop n) :
    m = .clockLow ∨ m = .latchLow := by
  rw [updateEvents_eq_updateStart, List.drop_append, List.drop_eq_nil_of_le (by rwa [length_updateStart_edge]),
    List.nil_append] at hm
  simpa using List.mem_of_mem_drop hm

/-! ## What a reset commits -/

/-- A step in which `rst` is asserted (70_reset_and_hazards R140). -/
theorem step_reset {s : State} (h : s.port.rst = true) : step s = .next s.takeReset := by
  simp [step, State.fetch, h]

/-- What a reset leaves at the outputs does not depend on whether CLOCK or LATCH has fallen just before it: the fall of
LATCH commits what the reset would. -/
theorem takeReset_out_perform_fall (s : State) {m : Micro} (hm : m = .clockLow ∨ m = .latchLow) :
    (s.perform m).takeReset.target.out = s.takeReset.target.out := by
  obtain rfl | rfl := hm
  · rw [takeReset_out, takeReset_out]
    rfl
  · rw [takeReset_out, takeReset_out, if_neg (by simp [State.perform]), perform_out]
    simp

theorem takeReset_out_performAll_falls (s : State) {l : List Micro} (h : ∀ m ∈ l, m = .clockLow ∨ m = .latchLow) :
    (s.performAll l).takeReset.target.out = s.takeReset.target.out := by
  induction l generalizing s with
  | nil => rfl
  | cons m l ih =>
    rw [List.forall_mem_cons] at h
    exact (ih (s.perform m) h.2).trans (takeReset_out_perform_fall s h.1)

/-- A reset until the third latched edge of the last word leaves the live outputs alone, since the forced fall finds no
signature 3 (46_target_device R127). -/
theorem takeReset_out_update_early {s : State} (ws : Words) (hclk : s.clk = false) (hlat : s.lat = false) {n : Nat}
    (hn : n < 798) : (s.performAll ((updateEvents ws).take n)).takeReset.target.out = s.target.out := by
  have hcount := openCount_update_take ws hlat hn
  rw [takeReset_out, if_neg, performAll_update_take_out ws hclk hlat (by omega)]
  rintro ⟨hlat', h3⟩
  rw [State.openCount, if_pos hlat', h3] at hcount
  exact absurd hcount (by decide)

/-- A reset after that edge leaves the words of the whole `UPDATE` at the outputs. -/
theorem takeReset_out_update_late {s : State} (ws : Words) (hclk : s.clk = false) (hlat : s.lat = false) {n : Nat}
    (hn : 798 ≤ n) : (s.performAll ((updateEvents ws).take n)).takeReset.target.out = ws := by
  obtain ⟨hpins, -, hout, -⟩ := performAll_update s ws hclk hlat
  rw [State.pins, Pins.mk.injEq] at hpins
  obtain ⟨-, -, hlow⟩ := hpins
  calc (s.performAll ((updateEvents ws).take n)).takeReset.target.out
    _ = ((s.performAll ((updateEvents ws).take n)).performAll ((updateEvents ws).drop n)).takeReset.target.out :=
      (takeReset_out_performAll_falls _ fun _ => mem_update_drop hn).symm
    _ = (s.performAll (updateEvents ws)).takeReset.target.out := by rw [← performAll_append, List.take_append_drop]
    _ = ws := by rw [takeReset_out, if_neg (by simp [hlow]), hout]

/-- After acceptance and `n` events of an `UPDATE`, the last one among them or not, LATCH and the target are where these
events put them. -/
theorem run_update_target {s : State} {n : Nat} (hb : s.busy = false) (hi : s.initd = true) (hp : Presents s 0b001#3)
    (hr : s.NoReset (n + 1)) (hn : n ≤ 800) :
    ∃ u : State, run (n + 1) s = .next u ∧ u.ports = s.ports.drop (n + 1)
      ∧ u.lat = (s.acceptUpdate.performAll ((updateEvents (unpackWords s.port.cmdWords)).take n)).lat
      ∧ u.target = (s.acceptUpdate.performAll ((updateEvents (unpackWords s.port.cmdWords)).take n)).target := by
  generalize hl : updateEvents (unpackWords s.port.cmdWords) = l
  have hlen : l.length = 800 := by rw [← hl, length_updateEvents]
  have hports : (s.acceptUpdate.performAll (l.take n)).ports = s.ports.drop (n + 1) := by
    rw [performAll_ports, List.length_take_of_le (by omega)]
    exact List.drop_tail
  obtain hlt | rfl := Nat.lt_or_eq_of_le hn
  · exact ⟨_, hl ▸ run_update_take hb hi hp hr hlt, hports, rfl, rfl⟩
  · have hrun := run_update hb hi hp hr
    rw [hl] at hrun
    rw [List.take_of_length_le hlen.le] at hports ⊢
    exact ⟨_, hrun, hports, rfl, rfl⟩

end Sys2Proof.Machine

open Sys2Proof Sys2Proof.Machine Sys2Proof.Claims

/-- Settles O45: before the reset `n` events have been performed, and what it does to OUT depends on whether the third
latched edge of the last word, event 797, is among them. -/
theorem truncatedUpdateIsAllOrNothing : Obligations.TruncatedUpdateIsAllOrNothing := by
  intro s n hidle hinitd hpresents hn hreset hrst
  obtain ⟨hb, hclk, hlat⟩ := hidle
  obtain ⟨u, hrun, hports, hlat', htarget⟩ := run_update_target hb hinitd hpresents hreset hn
  have hstep : step u = .next u.takeReset := step_reset (by rwa [State.port, hports])
  have hout : u.takeReset.target.out
      = (s.acceptUpdate.performAll ((updateEvents (unpackWords s.port.cmdWords)).take n)).takeReset.target.out := by
    rw [takeReset_out, takeReset_out, hlat', htarget]
  refine ⟨u.takeReset, (run_add hrun 1).trans (run_succ hstep 0), by simp [State.pins], by simp, by simp, by simp,
    fun h => ?early, fun h k hk i hi => ?late⟩
  case early => exact hout.trans (takeReset_out_update_early (s := s.acceptUpdate) _ hclk hlat h)
  case late =>
    rw [hout, takeReset_out_update_late (s := s.acceptUpdate) _ hclk hlat h]
    exact getLsbD_unpackWords s.port.cmdWords k i hk hi
end

section
/-! PROOFS. Reset and hazards: what a step under reset does, and that commands drive DATA_OUT only at a low CLOCK. -/

namespace Sys2Proof.Machine

/-! ## Data before clock -/

/-- From CLOCK at `clk`, the events drive DATA_OUT only while CLOCK is low, and leave CLOCK low (40_primitives R70). -/
def drivesDataLow (clk : Bool) (l : List Micro) : Bool :=
  match l with
  | [] => !clk
  | .setData _ :: l => !clk && drivesDataLow clk l
  | .clockHigh :: l => drivesDataLow true l
  | .clockLow :: l => drivesDataLow false l
  | _ :: l => drivesDataLow clk l

theorem drivesDataLow_setData {clk b : Bool} {l : List Micro} :
    drivesDataLow clk (.setData b :: l) = true ↔ clk = false ∧ drivesDataLow clk l = true := by
  simp [drivesDataLow]

/-- What holds of a list from CLOCK as it stands holds of its rest from CLOCK after the first event. -/
theorem drivesDataLow_after {p : Pins} {m : Micro} {l : List Micro} (h : drivesDataLow p.clk (m :: l) = true) :
    drivesDataLow (p.after (m.event false)).clk l = true := by
  cases m
  case setData b => exact (drivesDataLow_setData.mp h).2
  all_goals exact h

/-- Where such a list drives DATA_OUT, the events before it have left CLOCK low. -/
theorem clk_low_at_setData {p : Pins} {l : List Micro} {n : Nat} {b : Bool} (h : drivesDataLow p.clk l = true)
    (hn : l[n]? = some (.setData b)) : (p.afterAll ((l.take n).map (Micro.event false))).clk = false := by
  induction l generalizing p n with
  | nil => simp at hn
  | cons m l ih =>
    cases n with
    | zero =>
      obtain rfl : m = .setData b := by simpa using hn
      exact (drivesDataLow_setData.mp h).1
    | succ n => exact ih (drivesDataLow_after h) (by simpa using hn)

/-- Since the first list leaves CLOCK low, the second may begin with DATA_OUT. -/
theorem drivesDataLow_append {c : Bool} {l r : List Micro} (hl : drivesDataLow c l = true)
    (hr : drivesDataLow false r = true) : drivesDataLow c (l ++ r) = true := by
  induction l generalizing c with
  | nil =>
    obtain rfl : c = false := by simpa [drivesDataLow] using hl
    exact hr
  | cons m l ih =>
    have h := ih (drivesDataLow_after (p := ⟨false, c, false⟩) hl)
    cases m
    case setData b => exact drivesDataLow_setData.mpr ⟨(drivesDataLow_setData.mp hl).1, h⟩
    all_goals exact h

theorem drivesDataLow_flatMap {α : Type} {f : α → List Micro} (h : ∀ x, drivesDataLow false (f x) = true)
    (xs : List α) :
    drivesDataLow false (xs.flatMap f) = true := by
  induction xs with
  | nil => rfl
  | cons x xs ih => exact drivesDataLow_append (h x) ih

/-- Each bit is driven before its pulse, which ends low (40_primitives R70). -/
theorem drivesDataLow_sendBits (bs : List Bool) : drivesDataLow false (sendBitsEvents bs) = true :=
  drivesDataLow_flatMap (fun _ => rfl) bs

theorem drivesDataLow_dataWord (w : Word) : drivesDataLow false (dataWordEvents w) = true :=
  drivesDataLow_append (drivesDataLow_append (drivesDataLow_append (drivesDataLow_sendBits _) rfl) rfl) rfl

theorem drivesDataLow_globalWord (w : Word) : drivesDataLow false (globalWordEvents w) = true :=
  drivesDataLow_append
    (drivesDataLow_append (drivesDataLow_append (drivesDataLow_sendBits _) rfl) (drivesDataLow_sendBits _)) rfl

theorem drivesDataLow_cfgWord (v : Word) : drivesDataLow false (cfgWordEvents v) = true :=
  drivesDataLow_append (drivesDataLow_append
    (drivesDataLow_append (drivesDataLow_append (drivesDataLow_sendBits _) rfl) (drivesDataLow_sendBits _)) rfl) rfl

theorem drivesDataLow_word (ws : Words) (k : Fin 16) : drivesDataLow false (wordEvents ws k) = true := by
  unfold wordEvents
  split
  · exact drivesDataLow_dataWord _
  · exact drivesDataLow_globalWord _

/-- Every command drives DATA_OUT only while CLOCK is low (70_reset_and_hazards R143). -/
theorem drivesDataLow_eventList (op : Opcode) (ws : Words) (v : Word) :
    drivesDataLow false (eventList op ws v) = true := by
  unfold eventList
  split
  · rfl
  · exact drivesDataLow_flatMap (drivesDataLow_word ws) _
  · decide
  · decide
  · exact drivesDataLow_cfgWord v
  · rfl

/-- In a state of the invariant, CLOCK is high only during a command (10_state R26). -/
theorem State.Inv.busy_of_clk {s : State} (h : s.Inv) (hclk : s.clk = true) : s.busy = true := by
  by_contra hb
  obtain ⟨hlow, -⟩ := h.idle (Bool.eq_false_of_not_eq_true hb)
  cases hclk.symm.trans hlow

/-- In a state of the invariant, the event that drives DATA_OUT next finds CLOCK low. -/
theorem State.Inv.clk_low_of_setData {s : State} (h : s.Inv) (hb : s.busy = true) {b : Bool}
    (hn : s.nextEvent = some (.setData b)) : s.clk = false := by
  rw [(h.tracks hb).clk, State.progress, scan_pins]
  exact clk_low_at_setData (p := .idle false) (drivesDataLow_eventList _ _ _) hn

/-- An event that is no `D` leaves DATA_OUT as it is (40_primitives R66). -/
theorem perform_dout {s : State} {m : Micro} (h : ∀ b, m ≠ .setData b) : (s.perform m).dout = s.dout := by
  cases m
  case setData b => exact absurd rfl (h b)
  all_goals simp [State.perform]

end Sys2Proof.Machine

open Sys2Proof Sys2Proof.Machine Sys2Proof.Claims

/-- Settles O55: while CLOCK is high the invariant has a command in progress, and its next event is no `D`. -/
theorem dataHeldWhileClockHigh : Obligations.DataHeldWhileClockHigh := by
  intro s t hs hrst hclk hstep
  have hb : s.busy = true := hs.busy_of_clk hclk
  rw [step_busy hb, if_neg (by simp [hrst])] at hstep
  cases hm : s.nextEvent with
  | none => simp [hm] at hstep
  | some m =>
    have hno : ∀ b, m ≠ .setData b := by
      rintro b rfl
      cases hclk.symm.trans (hs.clk_low_of_setData hb hm)
    obtain rfl : (s.beginRoutine.perform m).completeIfDone = t := by simpa [hm] using hstep
    rw [State.completeIfDone_dout, perform_dout hno, State.beginRoutine_dout]

/-- Settles O59: each register is read off the state a reset answers, and a forced fall of LATCH is the fall the target
decodes (70_reset_and_hazards R140). -/
theorem resetStep : Obligations.ResetStep := by
  intro s hrst
  refine ⟨s.takeReset, step_reset hrst, by simp [State.pins], s.takeReset_initd, s.takeReset_busy, s.takeReset_upc,
    s.takeReset_rspValid, s.takeReset_tmr, s.takeReset_trace, s.takeReset_ports, fun hlat => ?low, fun hlat => ?fall⟩
  case low => simp [hlat]
  case fall => exact ⟨s.latchFall, latchFall_eq_exec s, by simp [hlat]⟩
end
